-- ==== Sys2Proof/Word.lean ====
section
/-! DEFINITION. The fixed widths of the machine (00_scope.md R3, R12): the word, the registers and the fields of an instruction. -/

namespace Sys2Proof

/-- The machine word, 36 bits (R3). Bit 0 is the least significant (R14). -/
abbrev Word := BitVec 36

/-- The contents of an index register, 18 bits (R12, R44). -/
abbrev IndexWord := BitVec 18

/-- A program counter, 18 bits, unsigned (R12, R51). -/
abbrev Pc := BitVec 18

/-- A priority rank, 8 bits, unsigned (R12, R55). -/
abbrev Rank := BitVec 8

/-- The id of a sequence, 6 bits (R62, R63, R164). -/
abbrev SeqId := BitVec 6

/-- The number of an index register: the J field, 6 bits (R44, R141). -/
abbrev IndexId := BitVec 6

/-- The configuration field C, 6 bits (R12, R141). -/
abbrev Config6 := BitVec 6

/-- The operation code, 6 bits (R12, R141). -/
abbrev Opcode := BitVec 6

/-- The address field Y, 17 bits (R12, R141). -/
abbrev AddrField := BitVec 17

end Sys2Proof
end

