-- ==== Sys2Proof/Machine/Bits.lean ====
section
/-! DEFINITION. The numbers a bit string stands for, and the bit string of a number (00_scope.md R15). All arithmetic between is on exact
integers (R16). -/

namespace Sys2Proof.Machine

/-- `u(w)`, in [0, 2^36) (R15). -/
abbrev uval (w : Word) : Nat := w.toNat

/-- `s(w) = u(w) - 2^36 * w[35]`, in [-2^35, 2^35) (R15). -/
abbrev sval (w : Word) : Int := w.toInt

/-- `s18(v)`, in [-131072, 131071] (R15, R44). -/
abbrev s18 (v : IndexWord) : Int := v.toInt

/-- `wrap36(n)`: the word congruent to n modulo 2^36 (R15). -/
def wrap36 (n : Int) : Word := BitVec.ofInt 36 n

/-- `wrap18(n)`: the 18-bit value congruent to n modulo 2^18 (R15). -/
def wrap18 (n : Int) : IndexWord := BitVec.ofInt 18 n

/-- The pc register's value for an address (18 bits, R51). The addresses it is applied to lie in [0, MEM_SIZE) and fit. -/
def pcOf (addr : Int) : Pc := BitVec.ofInt 18 addr

end Sys2Proof.Machine
end

