-- ==== Sys2Proof/Machine/Flags.lean ====
section
/-! DEFINITION. The ALU: results and condition outcomes on exact integers (44_arith.md R390 to R393), shifts and rotates (45_logic_shift.md R423 to
R427). The ALU computes and writes nothing (40_cycle.md R224, R225). -/

namespace Sys2Proof.Machine

/-- A carry-in bit as a number. -/
abbrev bit (k : Bool) : Nat := k.toNat

/-- Whether an exact result lies outside [-2^35, 2^35): the outcome v (R390). -/
def outOfRange (r : Int) : Bool := r < -(2 ^ 35) || 2 ^ 35 ≤ r

/-- The word, the carry outcome c and the overflow outcome v of an addition or subtraction (R390, R391). -/
structure AluOut where
  result : Word
  carry : Bool
  overflow : Bool
deriving DecidableEq, Repr

/-- Addition with carry-in k (R390, R391). -/
def aluAdd (a m : Word) (k : Bool) : AluOut where
  result := wrap36 ((uval a + uval m + bit k : Nat) : Int)
  carry := 2 ^ 36 ≤ uval a + uval m + bit k
  overflow := outOfRange (sval a + sval m + bit k)

/-- Subtraction with carry-in k, where 1 means no borrow (R390, R391). -/
def aluSub (a m : Word) (k : Bool) : AluOut where
  result := wrap36 ((uval a + uval (~~~m) + bit k : Nat) : Int)
  carry := 2 ^ 36 ≤ uval a + uval (~~~m) + bit k
  overflow := outOfRange (sval a - sval m - (1 - bit k))

/-- The 72-bit two's-complement product (R386, R393). -/
def product (a m : Word) : BitVec 72 := BitVec.ofInt 72 (sval a * sval m)

/-- `A <- P72[71:36]` (R386). -/
def productHigh (a m : Word) : Word := (product a m).extractLsb' 36 36

/-- `B <- P72[35:0]` (R386). -/
def productLow (a m : Word) : Word := (product a m).extractLsb' 0 36

/-- The two cases in which DIV raises ArithmeticFault: a zero divisor, and -2^35 / -1 (R387, R393). -/
def divFaults (a m : Word) : Bool := sval m == 0 || (sval a == -(2 ^ 35) && sval m == -1)

/-- `q = trunc(s(A) / s(M))`, rounded toward zero (R387, R393). -/
def quotient (a m : Word) : Int := (sval a).tdiv (sval m)

/-- `r = s(A) - q * s(M)` (R387, R393). -/
def remainder (a m : Word) : Int := sval a - quotient a m * sval m

/-- SHL's result (R423), for any count. -/
def shlResult (a : Word) (n : Config6) : Word := wrap36 ((uval a * 2 ^ n.toNat : Nat) : Int)

/-- SHL's carry for n ≥ 1: the last bit shifted out, 0 for n > 36 (R423). -/
def shlCarry (a : Word) (n : Config6) : Bool := if n.toNat ≤ 36 then a.getLsbD (36 - n.toNat) else false

/-- SHR's result (R424), for any count. -/
def shrResult (a : Word) (n : Config6) : Word := wrap36 ((uval a / 2 ^ n.toNat : Nat) : Int)

/-- SHR's carry for n ≥ 1 (R424). -/
def shrCarry (a : Word) (n : Config6) : Bool := if n.toNat ≤ 36 then a.getLsbD (n.toNat - 1) else false

/-- SAR's result: sign fill, rounding toward minus infinity (R425). -/
def sarResult (a : Word) (n : Config6) : Word := wrap36 (sval a / 2 ^ min n.toNat 36)

/-- SAR's carry for n ≥ 1: the last bit shifted out, the sign for n > 36 (R425). -/
def sarCarry (a : Word) (n : Config6) : Bool := if n.toNat ≤ 36 then a.getLsbD (n.toNat - 1) else a.getLsbD 35

/-- ROL's result, by n mod 36 (R426). -/
def rolResult (a : Word) (n : Config6) : Word :=
  a <<< (n.toNat % 36) ||| a >>> (36 - n.toNat % 36)

/-- ROR's result, by n mod 36 (R427). -/
def rorResult (a : Word) (n : Config6) : Word :=
  a >>> (n.toNat % 36) ||| a <<< (36 - n.toNat % 36)

end Sys2Proof.Machine
end

