-- ==== Sys2Proof/Config.lean ====
section
/-! DEFINITION. The implementation parameters of 00_scope.md R11: what an implementation fixes for a run. -/

namespace Sys2Proof

/-- The parameters of R11, each fixed for a run. Their legal values are `Params.legal` (Machine/Boot.lean, R13). -/
structure Params where
  /-- `MEM_SIZE`: the number of words of memory (R11, R100). -/
  memSize : Nat
  /-- `NSEQ`: the number of sequences (R11, R50). -/
  nseq : Nat
  /-- `BOOT_SEQ`: the designated boot sequence (R11, R713). -/
  bootSeq : SeqId
  /-- `ALARM_HANDLER_ADDR`: the handler sequence of AddressFault, or none: fatal (R11, R610). -/
  handlerAddr : Option SeqId
  /-- `ALARM_HANDLER_ARITH`: the handler sequence of ArithmeticFault, or none: fatal (R11, R610). -/
  handlerArith : Option SeqId
deriving DecidableEq, Repr

/-- The default of every parameter, as R11's table gives it. -/
def Params.default : Params where
  memSize := 131072
  nseq := 64
  bootSeq := 0
  handlerAddr := none
  handlerArith := none

end Sys2Proof
end

