-- ==== Sys2Proof/Syntax.lean ====
section
/-! DEFINITION. The instructions of TX2C-v1 as syntax: one constructor per row of spec/opcode_table.json (30_encoding.md R143 to R147),
the operand classes, the raw fields of a word, and the four grounds on which a word is illegal. -/

namespace Sys2Proof

/-- The operand class of an opcode (30_encoding.md R143). -/
inductive OperandClass where
  /-- memory operand -/
  | m
  /-- immediate -/
  | i
  /-- transfer target -/
  | t
  /-- index with memory -/
  | xm
  /-- index immediate -/
  | xi
  /-- index transfer -/
  | xr
  /-- shift -/
  | s
  /-- operate -/
  | r
  /-- sequence -/
  | qr
  /-- sequence, immediate -/
  | qi
  /-- sequence, target -/
  | qt
  /-- selector -/
  | p
deriving DecidableEq, Repr

/-- One constructor per row of spec/opcode_table.json. `j` is the J field, `d` the defer bit D, `y` the address field Y, and the C field is
`n` (a shift count or a sequence id) or `k` (a selector). A field the class marks must-be-zero has no argument (R143). -/
inductive Instr where
  /-- NOP, class R: no operation (R480). -/
  | nop
  /-- CLA, class R: clear A (R481). -/
  | cla
  /-- COM, class R: complement A (bitwise NOT) (R482). -/
  | com
  /-- NEG, class R: negate A (two's complement) (R483). -/
  | neg
  /-- XAB, class R: exchange A and B (R484). -/
  | xab
  /-- TAB, class R: copy A to B (R485). -/
  | tab
  /-- TBA, class R: copy B to A (R486). -/
  | tba
  /-- CLC, class R: clear carry (R487). -/
  | clc
  /-- SEC, class R: set carry (R488). -/
  | sec
  /-- CLO, class R: clear overflow (R489). -/
  | clo
  /-- RSI, class R: read the live sequence id (R527). -/
  | rsi
  /-- DIS, class R: disable the live sequence (R526). -/
  | dis
  /-- ACK, class R: acknowledge the recorded alarm (R528). -/
  | ack
  /-- PCH, class R: punch A (R561). -/
  | pch
  /-- HLT, class R: explicit halt (R490). -/
  | hlt
  /-- SHL, class S: shift A left, logical (R423). -/
  | shl (n : Config6)
  /-- SHR, class S: shift A right, logical (R424). -/
  | shr (n : Config6)
  /-- SAR, class S: shift A right, arithmetic (R425). -/
  | sar (n : Config6)
  /-- ROL, class S: rotate A left (R426). -/
  | rol (n : Config6)
  /-- ROR, class S: rotate A right (R427). -/
  | ror (n : Config6)
  /-- LDA, class M: load A (R260). -/
  | lda (j : IndexId) (d : Bool) (y : AddrField)
  /-- LDB, class M: load B (R261). -/
  | ldb (j : IndexId) (d : Bool) (y : AddrField)
  /-- STA, class M: store A (R262). -/
  | sta (j : IndexId) (d : Bool) (y : AddrField)
  /-- STB, class M: store B (R263). -/
  | stb (j : IndexId) (d : Bool) (y : AddrField)
  /-- STZ, class M: store zero (R264). -/
  | stz (j : IndexId) (d : Bool) (y : AddrField)
  /-- LIA, class I: load A immediate (R265). -/
  | lia (j : IndexId) (y : AddrField)
  /-- LIB, class I: load B immediate (R266). -/
  | lib (j : IndexId) (y : AddrField)
  /-- LDX, class XM: load index (R300). -/
  | ldx (j : IndexId) (d : Bool) (y : AddrField)
  /-- STX, class XM: store index (R301). -/
  | stx (j : IndexId) (d : Bool) (y : AddrField)
  /-- LIX, class XI: load index immediate (R302). -/
  | lix (j : IndexId) (y : AddrField)
  /-- ADX, class XI: add to index immediate (R303). -/
  | adx (j : IndexId) (y : AddrField)
  /-- TXA, class XR: transfer index to A (R304). -/
  | txa (j : IndexId)
  /-- TAX, class XR: transfer A to index (R305). -/
  | tax (j : IndexId)
  /-- DJP, class XM: decrement index and jump if positive (R306). -/
  | djp (j : IndexId) (d : Bool) (y : AddrField)
  /-- JMP, class T: jump (R340). -/
  | jmp (j : IndexId) (d : Bool) (y : AddrField)
  /-- JAZ, class T: jump if A is zero (R341). -/
  | jaz (j : IndexId) (d : Bool) (y : AddrField)
  /-- JNZ, class T: jump if A is not zero (R342). -/
  | jnz (j : IndexId) (d : Bool) (y : AddrField)
  /-- JAN, class T: jump if A is negative (R343). -/
  | jan (j : IndexId) (d : Bool) (y : AddrField)
  /-- JAP, class T: jump if A is positive (R344). -/
  | jap (j : IndexId) (d : Bool) (y : AddrField)
  /-- JOV, class T: jump on overflow, and clear it (R345). -/
  | jov (j : IndexId) (d : Bool) (y : AddrField)
  /-- JCY, class T: jump on carry (R346). -/
  | jcy (j : IndexId) (d : Bool) (y : AddrField)
  /-- JSX, class XM: jump and save the link in an index register (R347). -/
  | jsx (j : IndexId) (d : Bool) (y : AddrField)
  /-- ADD, class M: add, wrapping (R380). -/
  | add (j : IndexId) (d : Bool) (y : AddrField)
  /-- SUB, class M: subtract, wrapping (R381). -/
  | sub (j : IndexId) (d : Bool) (y : AddrField)
  /-- ADC, class M: add with carry (R382). -/
  | adc (j : IndexId) (d : Bool) (y : AddrField)
  /-- SBC, class M: subtract with carry (not-borrow) (R383). -/
  | sbc (j : IndexId) (d : Bool) (y : AddrField)
  /-- ADV, class M: add, alarm on overflow (R384). -/
  | adv (j : IndexId) (d : Bool) (y : AddrField)
  /-- SBV, class M: subtract, alarm on overflow (R385). -/
  | sbv (j : IndexId) (d : Bool) (y : AddrField)
  /-- MUL, class M: signed multiply to 72 bits (R386). -/
  | mul (j : IndexId) (d : Bool) (y : AddrField)
  /-- DIV, class M: signed divide (R387). -/
  | div (j : IndexId) (d : Bool) (y : AddrField)
  /-- AND, class M: bitwise AND (R420). -/
  | and (j : IndexId) (d : Bool) (y : AddrField)
  /-- IOR, class M: bitwise inclusive OR (R421). -/
  | ior (j : IndexId) (d : Bool) (y : AddrField)
  /-- XOR, class M: bitwise exclusive OR (R422). -/
  | xor (j : IndexId) (d : Bool) (y : AddrField)
  /-- SKE, class M: skip if A equals M (R460). -/
  | ske (j : IndexId) (d : Bool) (y : AddrField)
  /-- SKN, class M: skip if A differs from M (R461). -/
  | skn (j : IndexId) (d : Bool) (y : AddrField)
  /-- SKL, class M: skip if A is less than M (signed) (R462). -/
  | skl (j : IndexId) (d : Bool) (y : AddrField)
  /-- SKG, class M: skip if A is greater than M (signed) (R463). -/
  | skg (j : IndexId) (d : Bool) (y : AddrField)
  /-- SEN, class QR: enable sequence n (R520). -/
  | sen (n : SeqId)
  /-- SDS, class QR: disable sequence n (R521). -/
  | sds (n : SeqId)
  /-- SPR, class QI: set the priority of sequence n (R522). -/
  | spr (n : SeqId) (j : IndexId) (y : AddrField)
  /-- SPC, class QT: set the program counter of sequence n (R523). -/
  | spc (n : SeqId) (j : IndexId) (d : Bool) (y : AddrField)
  /-- RSS, class QR: read the status of sequence n (R524). -/
  | rss (n : SeqId)
  /-- RAS, class P: read an alarm status register (R525). -/
  | ras (k : Config6)
  /-- RDT, class T: read the next tape word, or branch at end of tape (R560). -/
  | rdt (j : IndexId) (d : Bool) (y : AddrField)
deriving DecidableEq, Repr

/-- Why a word is illegal: the four cases of R148. The ground is the model's own detail, which no state of the machine holds; which one is named
where several hold is a DESIGN CHOICE (log entry 23). -/
inductive Illegal where
  /-- (a) its OP is a reserved opcode -/
  | reservedOpcode
  /-- (b) its OP is OPR and C ≥ 0o17 -/
  | reservedOperate
  /-- (c) its OP is RAS and C ≥ 3 -/
  | reservedSelector
  /-- (d) a field that its class marks must-be-zero is not zero -/
  | mustBeZero
deriving DecidableEq, Repr

/-- The five fields of an instruction word as numbers, so that a value that does not fit its field can be written and refused (R141, R152). -/
structure Fields where
  c : Nat
  op : Nat
  j : Nat
  d : Nat
  y : Nat
deriving DecidableEq, Repr

/-- A row of the opcode table (R147): its mnemonic, its `match` and `mask` as words, and the constraint `C ≤ maxC` where it has one. -/
structure OpcodeRow where
  mnemonic : String
  pattern : Word
  mask : Word
  maxC : Option Nat
deriving DecidableEq, Repr

end Sys2Proof
end

