-- ==== Sys2Proof/Machine/State.lean ====
section
/-! DEFINITION. The state of the machine as plain data (10_state.md R40): every component the spec names, the parameters and the tape image
of the run (log entries 1 and 2), the reset state (R74, R701), and the reasons for which a step of the model stops. -/

namespace Sys2Proof.Machine

/-- The record of one sequence (R50). -/
structure SeqRec where
  /-- address of the next instruction this sequence executes (R51, R52) -/
  pc : Pc
  /-- enabled flag (R54) -/
  en : Bool
  /-- priority rank, larger is higher (R55, R56) -/
  prio : Rank
  /-- overflow flag, sticky (R57) -/
  ov : Bool
  /-- carry flag (R58) -/
  cy : Bool
deriving DecidableEq, Repr

/-- Every field of a sequence record at its reset value (R50, R74). -/
def SeqRec.reset : SeqRec where
  pc := 0
  en := false
  prio := 0
  ov := false
  cy := false

/-- The alarm status registers (R63). -/
structure Asr where
  valid : Bool
  kind : BitVec 3
  seq : SeqId
  pc : Pc
  word : Word
  info : Word
deriving DecidableEq, Repr

/-- Every ASR field at its reset value (R63, R74). -/
def Asr.reset : Asr where
  valid := false
  kind := 0
  seq := 0
  pc := 0
  word := 0
  info := 0

/-- The alarm kinds (60_exceptions.md R600). -/
inductive AlarmKind where
  | illegalInstruction
  | addressFault
  | arithmeticFault
deriving DecidableEq, Repr

/-- The halt reasons (R68). Their numeric codes are `HaltReason.code` (Machine/Ops.lean). -/
inductive HaltReason where
  | illegalInstruction
  | addressFault
  | arithmeticFault
  | explicitHalt
  | noRunnableSequence
  | bootImageInvalid
deriving DecidableEq, Repr

/-- A halt record (R67), filled as 60_exceptions.md R621 says. -/
structure HaltRecord where
  reason : HaltReason
  seq : SeqId
  pc : Pc
  word : Word
  info : Word
deriving DecidableEq, Repr

/-- The engine mode (R66). -/
inductive Mode where
  | booting
  | running
  | halted (r : HaltRecord)
deriving DecidableEq, Repr

/-- Memory as its nonzero words: pairs of an address and a word, addresses strictly rising, no word 0 listed. An unlisted address reads 0
(20_memory.md R100, R101, R106; log entry 3). -/
abbrev Memory := List (Nat × Word)

/-- The state of the machine. `params` and `image` are the run's parameters and input (R72), which no step writes; the rest is R40's list and
the cycle counter of R71. -/
structure State where
  /-- the parameters of the run (00_scope.md R11; log entry 1) -/
  params : Params
  /-- the tape image, the input of `run` (R72, R76; log entry 2) -/
  image : List Word
  /-- the engine mode (R66) -/
  mode : Mode
  /-- the accumulator A (R41) -/
  a : Word
  /-- the extension accumulator B (R42) -/
  b : Word
  /-- the index registers X[0..63] (R44); `readX` and `writeX` make X[0] read 0 and discard writes (R45, R46) -/
  x : Vector IndexWord 64
  /-- the sequence table (R50); the records of ids below NSEQ are the machine's (log entry 4) -/
  seq : Vector SeqRec 64
  /-- the alarm status registers (R63) -/
  asr : Asr
  /-- memory (R100) -/
  mem : Memory
  /-- the tape input stream T_in (R69) -/
  tapeIn : List Word
  /-- the tape cursor tc (R69) -/
  tc : Nat
  /-- the punch output stream P_out (R70) -/
  punch : List Word
  /-- the cycle counter (R71) -/
  cycles : Nat
deriving DecidableEq, Repr

/-- The state after reset and before boot (R74, R701) of a run with given parameters and image. -/
def State.initial (p : Params) (image : List Word) : State where
  params := p
  image := image
  mode := .booting
  a := 0
  b := 0
  x := Vector.replicate 64 0
  seq := Vector.replicate 64 SeqRec.reset
  asr := Asr.reset
  mem := []
  tapeIn := []
  tc := 0
  punch := []
  cycles := 0

/-- The machine right after reset (R74, R701), with the default parameters (R11) and no tape image mounted (log entry 2). -/
def State.reset : State := State.initial Params.default []

/-- Why a step of the model stops with a fault. -/
inductive Fault where
  /-- Raised by `step` in mode Halted(r): "`Halted` is terminal; no further cycles execute" (40_cycle.md R205), so there is no next state.
  Safe: the hardware has no transition either (log entry 8). -/
  | halted (r : HaltRecord)
deriving DecidableEq, Repr

/-- Why a step of the model refuses. -/
inductive Refusal where
  /-- For an instruction that has no meaning in the model; no arm of `exec` raises it. Safe. -/
  | notModelled (mnemonic : String)
  /-- Raised by `step` when the parameters are not a legal set: "no run exists for such a set" (00_scope.md R13). Safe (log entry 9). -/
  | illegalParameters
deriving DecidableEq, Repr

/-- One buffered write of an effect set (40_cycle.md R224) or of an alarm switch (60_exceptions.md R610), naming its component. -/
inductive Write where
  | a (v : Word)
  | b (v : Word)
  | x (j : IndexId) (v : IndexWord)
  | seqPc (n : SeqId) (v : Pc)
  | seqEn (n : SeqId) (v : Bool)
  | seqPrio (n : SeqId) (v : Rank)
  | seqOv (n : SeqId) (v : Bool)
  | seqCy (n : SeqId) (v : Bool)
  | asr (v : Asr)
  | asrValid (v : Bool)
  | mem (addr : Nat) (v : Word)
  | tapeCursor (v : Nat)
  | punch (v : Word)
deriving DecidableEq, Repr

/-- An effect set (40_cycle.md R224): the buffered writes, and the explicit next-pc where there is one (R232). -/
structure Effects where
  writes : List Write
  nextPc : Option Pc
deriving DecidableEq, Repr

/-- What abandons an instruction: `raise Kind(info)` or `halt ExplicitHalt` (00_scope.md R17). -/
inductive Abort where
  | raise (k : AlarmKind) (info : Word)
  | halt
deriving DecidableEq, Repr

/-- The outcome of the execute phase (40_cycle.md R235): an effect set, or the abort that discards it (R231). -/
abbrev Action := Except Abort Effects

/-- How the phases before EXECUTE end (40_cycle.md R200, R235). -/
inductive CycleStart where
  /-- the step ends before EXECUTE: no runnable sequence, a fetch fault or an illegal word -/
  | ended (s : State)
  /-- the decoded instruction, to be executed in the given state -/
  | run (i : Instr) (s : State)
deriving DecidableEq, Repr

end Sys2Proof.Machine
end

