-- ==== Sys2Proof/Machine/Ops.lean ====
section
/-! DEFINITION. The named operations over memory, registers and the sequence table, the buffered writes and their commit, and taking an
alarm, each written once. -/

namespace Sys2Proof.Machine

/-! ### Memory (20_memory.md) -/

/-- The word at an address: 0 where nothing is listed (R106). -/
def Memory.read : Memory → Nat → Word
  | [], _ => 0#36
  | (k, v) :: rest, addr => if addr = k then v else Memory.read rest addr

/-- Put a word at an address, keeping the addresses rising; a word 0 is taken out of the list instead. -/
def Memory.write : Memory → Nat → Word → Memory
  | [], addr, v => if v = 0#36 then [] else [(addr, v)]
  | (k, w) :: rest, addr, v =>
    if addr < k then (if v = 0#36 then (k, w) :: rest else (addr, v) :: (k, w) :: rest)
    else if addr = k then (if v = 0#36 then rest else (addr, v) :: rest)
    else (k, w) :: Memory.write rest addr v

/-- Every listed address is greater than `lo`, they rise strictly, and no listed word is 0. -/
def Memory.wfFrom : Option Nat → Memory → Bool
  | _, [] => true
  | lo, (k, v) :: rest => (match lo with | none => true | some l => l < k) && v != 0#36 && Memory.wfFrom (some k) rest

/-- The canonical form of memory: addresses strictly rising, no word 0 listed. -/
def Memory.wf (m : Memory) : Bool := Memory.wfFrom none m

/-- `load_image(base, words)` without its bounds check, which boot makes first (R107, R712): MEM[base + i] becomes words[i]. -/
def Memory.load : Memory → Nat → List Word → Memory
  | m, _, [] => m
  | m, base, w :: ws => Memory.load (m.write base w) (base + 1) ws

/-- Whether an address, as a mathematical integer, lies in [0, MEM_SIZE) (R105). -/
def inBounds (s : State) (addr : Int) : Bool := 0 ≤ addr && addr < s.params.memSize

/-- `raise AddressFault(info = wrap36(addr))` (R103, R104). -/
def addressFault (addr : Int) : Abort := .raise .addressFault (wrap36 addr)

/-- `MemRead(addr)` (R103). -/
def memRead (s : State) (addr : Int) : Except Abort Word :=
  if inBounds s addr then .ok (s.mem.read addr.toNat) else .error (addressFault addr)

/-- `MemWrite(addr, v)` (R104): the buffered write, or the fault. -/
def memWrite (s : State) (addr : Int) (v : Word) : Except Abort Write :=
  if inBounds s addr then .ok (.mem addr.toNat v) else .error (addressFault addr)

/-! ### Registers (10_state.md) -/

/-- A read of X[j]: X[0] gives 0 (R45). -/
def readX (s : State) (j : IndexId) : IndexWord :=
  if j = 0#6 then 0#18 else s.x[j.toNat]'j.isLt

/-- A write to X[j]: a write to X[0] is discarded (R46). -/
def writeX (s : State) (j : IndexId) (v : IndexWord) : State :=
  if j = 0#6 then s else { s with x := s.x.set j.toNat v j.isLt }

/-- The record of sequence n (R50). -/
def seqAt (s : State) (n : SeqId) : SeqRec := s.seq[n.toNat]'n.isLt

/-- Replace the record of sequence n. -/
def setSeq (s : State) (n : SeqId) (r : SeqRec) : State := { s with seq := s.seq.set n.toNat r n.isLt }

/-! ### The scheduler (40_cycle.md R210, R214) -/

/-- The ids of the enabled sequences, rising: the set E of R210. -/
def enabledIds (s : State) : List SeqId :=
  ((List.range s.params.nseq).map (BitVec.ofNat 6)).filter fun n => (seqAt s n).en

/-- The largest rank among some sequences: m of R210. -/
def topRank (s : State) (ids : List SeqId) : Rank :=
  ids.foldl (fun m n => if m ≤ (seqAt s n).prio then (seqAt s n).prio else m) 0

/-- `select(SEQ)` (R210): among the enabled sequences the one of highest rank, ties to the lowest id; none when no sequence is enabled. -/
def select (s : State) : Option SeqId :=
  (enabledIds s).find? fun n => (seqAt s n).prio == topRank s (enabledIds s)

/-! ### Commit (40_cycle.md R230 to R233) -/

/-- Apply one buffered write. -/
def applyWrite (s : State) : Write → State
  | .a v => { s with a := v }
  | .b v => { s with b := v }
  | .x j v => writeX s j v
  | .seqPc n v => setSeq s n { seqAt s n with pc := v }
  | .seqEn n v => setSeq s n { seqAt s n with en := v }
  | .seqPrio n v => setSeq s n { seqAt s n with prio := v }
  | .seqOv n v => setSeq s n { seqAt s n with ov := v }
  | .seqCy n v => setSeq s n { seqAt s n with cy := v }
  | .asr v => { s with asr := v }
  | .asrValid v => { s with asr := { s.asr with valid := v } }
  | .mem addr v => { s with mem := s.mem.write addr v }
  | .tapeCursor v => { s with tc := v }
  | .punch v => { s with punch := s.punch ++ [v] }

/-- Apply a list of buffered writes. -/
def applyWrites (s : State) (ws : List Write) : State := ws.foldl applyWrite s

/-- The next pc of the live sequence (R232): the explicit next-pc, or `advance(cur)`, which adds one (R53). -/
def nextPc (s : State) (cur : SeqId) (e : Effects) : Pc := e.nextPc.getD ((seqAt s cur).pc + 1)

/-- Everything a committing cycle writes: the effect set, then the pc of the live sequence (R230, R232). -/
def commitWrites (s : State) (cur : SeqId) (e : Effects) : List Write := e.writes ++ [.seqPc cur (nextPc s cur e)]

/-- COMMIT (R230): every write of the effect set at once, then the pc. -/
def commit (s : State) (cur : SeqId) (e : Effects) : State := applyWrites s (commitWrites s cur e)

/-! ### Halts and alarms (60_exceptions.md) -/

/-- The numeric code of a halt reason (R68, R600). -/
def HaltReason.code : HaltReason → Nat
  | .illegalInstruction => 1
  | .addressFault => 2
  | .arithmeticFault => 3
  | .explicitHalt => 4
  | .noRunnableSequence => 5
  | .bootImageInvalid => 6

/-- The code an alarm writes to ASR.kind (R609). -/
def AlarmKind.code : AlarmKind → BitVec 3
  | .illegalInstruction => 1
  | .addressFault => 2
  | .arithmeticFault => 3

/-- The halt reason of a fatal alarm: its kind (R610). -/
def AlarmKind.reason : AlarmKind → HaltReason
  | .illegalInstruction => .illegalInstruction
  | .addressFault => .addressFault
  | .arithmeticFault => .arithmeticFault

/-- A halt sets the mode and applies nothing else (R620). -/
def halt (s : State) (r : HaltRecord) : State := { s with mode := .halted r }

/-- The halt of a SELECT that finds no enabled sequence: record (5, 0, 0, 0, 0) (R605, 40_cycle.md R211). -/
def haltNoRunnable (s : State) : State :=
  halt s { reason := .noRunnableSequence, seq := 0, pc := 0, word := 0, info := 0 }

/-- The handler sequence h that R610 names for an alarm kind. -/
def alarmHandler (s : State) : AlarmKind → Option SeqId
  | .addressFault => s.params.handlerAddr
  | .arithmeticFault => s.params.handlerArith
  | .illegalInstruction => none

/-- The handler that catches an alarm of the live sequence, where one does: `h != none and h != cur and ASR.valid = 0` (R610). -/
def catcher (s : State) (k : AlarmKind) (cur : SeqId) : Option SeqId :=
  match alarmHandler s k with
  | none => none
  | some h => if h ≠ cur ∧ s.asr.valid = false then some h else none

/-- The writes of a caught alarm, and nothing else (R610, R611). -/
def alarmWrites (k : AlarmKind) (cur h : SeqId) (p : Pc) (w : Word) (info : Word) : List Write :=
  [.asr { valid := true, kind := k.code, seq := cur, pc := p, word := w, info := info }, .seqEn cur false, .seqEn h true]

/-- `alarm(k, cur, p, w, i)` (R610): a sequence switch where the alarm is caught, else a fatal halt. -/
def alarm (s : State) (k : AlarmKind) (cur : SeqId) (p : Pc) (w : Word) (info : Word) : State :=
  match catcher s k cur with
  | some h => applyWrites s (alarmWrites k cur h p w info)
  | none => halt s { reason := k.reason, seq := cur, pc := p, word := w, info := info }

/-! ### The execute phase of the live sequence (40_cycle.md R235) -/

/-- The word fetched for sequence cur: MEM[p], or 0 where the fetch faults (R216). -/
def fetchedWord (s : State) (cur : SeqId) : Word :=
  if (seqAt s cur).pc.toNat < s.params.memSize then s.mem.read (seqAt s cur).pc.toNat else 0#36

/-- How a cycle of the live sequence ends (R235): the commit, the alarm, or the explicit halt of HLT with the record of R604. -/
def finish (s : State) (cur : SeqId) : Action → State
  | .ok e => commit s cur e
  | .error (.raise k info) => alarm s k cur (seqAt s cur).pc (fetchedWord s cur) info
  | .error .halt =>
    halt s { reason := .explicitHalt, seq := cur, pc := (seqAt s cur).pc, word := fetchedWord s cur, info := 0 }

/-- Run the execute phase of an instruction for the live sequence. `step` calls a meaning only where a sequence is live; without one this is the
halt of R211 (log entry 6). -/
def runLive (s : State) (act : SeqId → Action) : Host.Outcome State Fault Refusal :=
  match select s with
  | none => .next (haltNoRunnable s)
  | some cur => .next (finish s cur (act cur))

end Sys2Proof.Machine
end

