-- ==== Sys2Proof/Machine/Operands.lean ====
section
/-! DEFINITION. The operand forms: effective addresses (40_cycle.md R219 to R223; 30_encoding.md R165, R166), immediates (R160 to R162), memory
operands, transfer targets, and the shapes of an effect set. -/

namespace Sys2Proof.Machine

/-! ### Addresses and immediates -/

/-- `Y + s18(X[J])` as a mathematical integer: EA0 of classes M, T and QT (R165, R220), and the immediate I of classes I and QI (R160). -/
def indexed (s : State) (j : IndexId) (y : AddrField) : Int := (y.toNat : Int) + s18 (readX s j)

/-- `indirect(EA0)` (R221): one level, bits 16..0 of the word at EA0, the other bits ignored. -/
def indirect (s : State) (ea0 : Int) : Except Abort Int := do
  let v ← memRead s ea0
  return ((v.extractLsb' 0 17).toNat : Int)

/-- EA from EA0 and the defer bit (R220). EA is not range-checked here (R222). -/
def resolve (s : State) (d : Bool) (ea0 : Int) : Except Abort Int :=
  if d then indirect s ea0 else .ok ea0

/-- EA of classes M, T and QT: indexing, then at most one level of indirection (R165, R220). -/
def eaIndexed (s : State) (j : IndexId) (d : Bool) (y : AddrField) : Except Abort Int := resolve s d (indexed s j y)

/-- EA of class XM: not indexed, since J names the operand register (R166, R220). -/
def eaPlain (s : State) (d : Bool) (y : AddrField) : Except Abort Int := resolve s d (y.toNat : Int)

/-- LIX's immediate: Y zero-extended to 18 bits (R161). -/
def immUnsigned (y : AddrField) : IndexWord := y.setWidth 18

/-- ADX's immediate: `dY = Y - 2^17 * Y[16]` (R162). -/
def immSigned (y : AddrField) : Int := y.toInt

/-- The word at EA of an M-class instruction: `M = MemRead(EA)`. -/
def operand (s : State) (j : IndexId) (d : Bool) (y : AddrField) : Except Abort Word := do
  let ea ← eaIndexed s j d y
  memRead s ea

/-- The target of a taken transfer, and of SPC: it must lie in [0, MEM_SIZE) (R222, R223). -/
def target (s : State) (ea : Int) : Except Abort Pc :=
  if inBounds s ea then .ok (pcOf ea) else .error (addressFault ea)

/-- The sequence-id check of classes QR, QI and QT, before anything else: `n ≥ NSEQ` raises AddressFault with info = n (R164, R219). -/
def checkSeq (s : State) (n : SeqId) : Except Abort Unit :=
  if n.toNat < s.params.nseq then .ok () else .error (addressFault (n.toNat : Int))

/-! ### Effect sets -/

/-- Writes after which the pc advances by one (R232). -/
def advanceWith (ws : List Write) : Effects := { writes := ws, nextPc := none }

/-- Writes with an explicit next-pc (R232). -/
def jumpWith (ws : List Write) (t : Pc) : Effects := { writes := ws, nextPc := some t }

/-- `skip`: the explicit next-pc p + 2, not range-checked (00_scope.md R17; 40_cycle.md R232). -/
def skip (s : State) (cur : SeqId) : Effects := jumpWith [] ((seqAt s cur).pc + 2)

/-- A T-class transfer (43_control.md R339): EA is computed whether or not the transfer is taken, and checked only when it is taken; `ws` are the
other writes of a taken transfer. -/
def transferIf (s : State) (taken : Bool) (ws : List Write) (ea : Int) : Action :=
  if taken then do
    let t ← target s ea
    return jumpWith ws t
  else .ok (advanceWith [])

end Sys2Proof.Machine
end

