-- ==== Sys2Proof/Machine/Arith.lean ====
section
/-! DEFINITION. Integer arithmetic (44_arith.md): which operations wrap and which trap is R392's table. The operand is read before any arithmetic, so an AddressFault comes first (R394). Each instruction has its effect set, and its meaning: that effect set run for the live sequence. -/

namespace Sys2Proof.Machine

/-- ADD (R380): wraps; cy <- c, ov <- ov OR v, with k = 0. -/
def effAdd (j : IndexId) (d : Bool) (y : AddrField) (s : State) (cur : SeqId) : Action := do
  let m ← operand s j d y
  let r := aluAdd s.a m false
  return advanceWith [.a r.result, .seqCy cur r.carry, .seqOv cur ((seqAt s cur).ov || r.overflow)]

/-- The meaning of ADD (R380). -/
def execAdd (j : IndexId) (d : Bool) (y : AddrField) (s : State) : Host.Outcome State Fault Refusal := runLive s (effAdd j d y s)

/-- SUB (R381): wraps; cy <- c, ov <- ov OR v, with k = 1. -/
def effSub (j : IndexId) (d : Bool) (y : AddrField) (s : State) (cur : SeqId) : Action := do
  let m ← operand s j d y
  let r := aluSub s.a m true
  return advanceWith [.a r.result, .seqCy cur r.carry, .seqOv cur ((seqAt s cur).ov || r.overflow)]

/-- The meaning of SUB (R381). -/
def execSub (j : IndexId) (d : Bool) (y : AddrField) (s : State) : Host.Outcome State Fault Refusal := runLive s (effSub j d y s)

/-- ADC (R382): wraps; cy <- c, ov <- ov OR v, with k = cy. -/
def effAdc (j : IndexId) (d : Bool) (y : AddrField) (s : State) (cur : SeqId) : Action := do
  let m ← operand s j d y
  let r := aluAdd s.a m (seqAt s cur).cy
  return advanceWith [.a r.result, .seqCy cur r.carry, .seqOv cur ((seqAt s cur).ov || r.overflow)]

/-- The meaning of ADC (R382). -/
def execAdc (j : IndexId) (d : Bool) (y : AddrField) (s : State) : Host.Outcome State Fault Refusal := runLive s (effAdc j d y s)

/-- SBC (R383): wraps; cy <- c, ov <- ov OR v, with k = cy. -/
def effSbc (j : IndexId) (d : Bool) (y : AddrField) (s : State) (cur : SeqId) : Action := do
  let m ← operand s j d y
  let r := aluSub s.a m (seqAt s cur).cy
  return advanceWith [.a r.result, .seqCy cur r.carry, .seqOv cur ((seqAt s cur).ov || r.overflow)]

/-- The meaning of SBC (R383). -/
def execSbc (j : IndexId) (d : Bool) (y : AddrField) (s : State) : Host.Outcome State Fault Refusal := runLive s (effSbc j d y s)

/-- ADV (R384): ArithmeticFault(wrap36(EA)) on v, with nothing written; else A and cy. -/
def effAdv (j : IndexId) (d : Bool) (y : AddrField) (s : State) (cur : SeqId) : Action := do
  let ea ← eaIndexed s j d y
  let m ← memRead s ea
  let r := aluAdd s.a m false
  if r.overflow then .error (.raise .arithmeticFault (wrap36 ea))
  else return advanceWith [.a r.result, .seqCy cur r.carry]

/-- The meaning of ADV (R384). -/
def execAdv (j : IndexId) (d : Bool) (y : AddrField) (s : State) : Host.Outcome State Fault Refusal := runLive s (effAdv j d y s)

/-- SBV (R385): ArithmeticFault(wrap36(EA)) on v, with nothing written; else A and cy. -/
def effSbv (j : IndexId) (d : Bool) (y : AddrField) (s : State) (cur : SeqId) : Action := do
  let ea ← eaIndexed s j d y
  let m ← memRead s ea
  let r := aluSub s.a m true
  if r.overflow then .error (.raise .arithmeticFault (wrap36 ea))
  else return advanceWith [.a r.result, .seqCy cur r.carry]

/-- The meaning of SBV (R385). -/
def execSbv (j : IndexId) (d : Bool) (y : AddrField) (s : State) : Host.Outcome State Fault Refusal := runLive s (effSbv j d y s)

/-- MUL (R386): the 72-bit signed product in A (high) and B (low). -/
def effMul (j : IndexId) (d : Bool) (y : AddrField) (s : State) (_cur : SeqId) : Action := do
  let m ← operand s j d y
  return advanceWith [.a (productHigh s.a m), .b (productLow s.a m)]

/-- The meaning of MUL (R386). -/
def execMul (j : IndexId) (d : Bool) (y : AddrField) (s : State) : Host.Outcome State Fault Refusal := runLive s (effMul j d y s)

/-- DIV (R387): quotient in A, remainder in B; ArithmeticFault(wrap36(EA)) for a zero divisor and for -2^35 / -1. -/
def effDiv (j : IndexId) (d : Bool) (y : AddrField) (s : State) (_cur : SeqId) : Action := do
  let ea ← eaIndexed s j d y
  let m ← memRead s ea
  if divFaults s.a m then .error (.raise .arithmeticFault (wrap36 ea))
  else return advanceWith [.a (wrap36 (quotient s.a m)), .b (wrap36 (remainder s.a m))]

/-- The meaning of DIV (R387). -/
def execDiv (j : IndexId) (d : Bool) (y : AddrField) (s : State) : Host.Outcome State Fault Refusal := runLive s (effDiv j d y s)

end Sys2Proof.Machine
end

