-- ==== Sys2Proof/Machine/CompareSkip.lean ====
section
/-! DEFINITION. Compare and skip (46_compare_skip.md): no register, flag or memory is written (R459). Each instruction has its effect set, and its meaning: that effect set run for the live sequence. -/

namespace Sys2Proof.Machine

/-- SKE (R460): skip if A = M. -/
def effSke (j : IndexId) (d : Bool) (y : AddrField) (s : State) (cur : SeqId) : Action := do
  let m ← operand s j d y
  return if s.a = m then skip s cur else advanceWith []

/-- The meaning of SKE (R460). -/
def execSke (j : IndexId) (d : Bool) (y : AddrField) (s : State) : Host.Outcome State Fault Refusal := runLive s (effSke j d y s)

/-- SKN (R461): skip if A ≠ M. -/
def effSkn (j : IndexId) (d : Bool) (y : AddrField) (s : State) (cur : SeqId) : Action := do
  let m ← operand s j d y
  return if s.a ≠ m then skip s cur else advanceWith []

/-- The meaning of SKN (R461). -/
def execSkn (j : IndexId) (d : Bool) (y : AddrField) (s : State) : Host.Outcome State Fault Refusal := runLive s (effSkn j d y s)

/-- SKL (R462): skip if s(A) < s(M). -/
def effSkl (j : IndexId) (d : Bool) (y : AddrField) (s : State) (cur : SeqId) : Action := do
  let m ← operand s j d y
  return if sval s.a < sval m then skip s cur else advanceWith []

/-- The meaning of SKL (R462). -/
def execSkl (j : IndexId) (d : Bool) (y : AddrField) (s : State) : Host.Outcome State Fault Refusal := runLive s (effSkl j d y s)

/-- SKG (R463): skip if s(A) > s(M). -/
def effSkg (j : IndexId) (d : Bool) (y : AddrField) (s : State) (cur : SeqId) : Action := do
  let m ← operand s j d y
  return if sval m < sval s.a then skip s cur else advanceWith []

/-- The meaning of SKG (R463). -/
def execSkg (j : IndexId) (d : Bool) (y : AddrField) (s : State) : Host.Outcome State Fault Refusal := runLive s (effSkg j d y s)

end Sys2Proof.Machine
end

