-- ==== Sys2Proof/Machine/Control.lean ====
section
/-! DEFINITION. Control transfer (43_control.md). The indirect read happens whether or not a transfer is taken; the target is checked only when it is (R339). Each instruction has its effect set, and its meaning: that effect set run for the live sequence. -/

namespace Sys2Proof.Machine

/-- JMP (R340): `pc <- EA`. -/
def effJmp (j : IndexId) (d : Bool) (y : AddrField) (s : State) (_cur : SeqId) : Action := do
  let ea ← eaIndexed s j d y
  transferIf s true [] ea

/-- The meaning of JMP (R340). -/
def execJmp (j : IndexId) (d : Bool) (y : AddrField) (s : State) : Host.Outcome State Fault Refusal := runLive s (effJmp j d y s)

/-- JAZ (R341): `if A = 0: pc <- EA`. -/
def effJaz (j : IndexId) (d : Bool) (y : AddrField) (s : State) (_cur : SeqId) : Action := do
  let ea ← eaIndexed s j d y
  transferIf s (s.a == 0#36) [] ea

/-- The meaning of JAZ (R341). -/
def execJaz (j : IndexId) (d : Bool) (y : AddrField) (s : State) : Host.Outcome State Fault Refusal := runLive s (effJaz j d y s)

/-- JNZ (R342): `if A != 0: pc <- EA`. -/
def effJnz (j : IndexId) (d : Bool) (y : AddrField) (s : State) (_cur : SeqId) : Action := do
  let ea ← eaIndexed s j d y
  transferIf s (s.a != 0#36) [] ea

/-- The meaning of JNZ (R342). -/
def execJnz (j : IndexId) (d : Bool) (y : AddrField) (s : State) : Host.Outcome State Fault Refusal := runLive s (effJnz j d y s)

/-- JAN (R343): `if s(A) < 0: pc <- EA`. -/
def effJan (j : IndexId) (d : Bool) (y : AddrField) (s : State) (_cur : SeqId) : Action := do
  let ea ← eaIndexed s j d y
  transferIf s (sval s.a < 0) [] ea

/-- The meaning of JAN (R343). -/
def execJan (j : IndexId) (d : Bool) (y : AddrField) (s : State) : Host.Outcome State Fault Refusal := runLive s (effJan j d y s)

/-- JAP (R344): `if s(A) > 0: pc <- EA`. -/
def effJap (j : IndexId) (d : Bool) (y : AddrField) (s : State) (_cur : SeqId) : Action := do
  let ea ← eaIndexed s j d y
  transferIf s (0 < sval s.a) [] ea

/-- The meaning of JAP (R344). -/
def execJap (j : IndexId) (d : Bool) (y : AddrField) (s : State) : Host.Outcome State Fault Refusal := runLive s (effJap j d y s)

/-- JOV (R345): `if SEQ[cur].ov = 1: pc <- EA` and `SEQ[cur].ov <- 0`. -/
def effJov (j : IndexId) (d : Bool) (y : AddrField) (s : State) (cur : SeqId) : Action := do
  let ea ← eaIndexed s j d y
  transferIf s (seqAt s cur).ov [.seqOv cur false] ea

/-- The meaning of JOV (R345). -/
def execJov (j : IndexId) (d : Bool) (y : AddrField) (s : State) : Host.Outcome State Fault Refusal := runLive s (effJov j d y s)

/-- JCY (R346): `if SEQ[cur].cy = 1: pc <- EA`; cy is kept. -/
def effJcy (j : IndexId) (d : Bool) (y : AddrField) (s : State) (cur : SeqId) : Action := do
  let ea ← eaIndexed s j d y
  transferIf s (seqAt s cur).cy [] ea

/-- The meaning of JCY (R346). -/
def execJcy (j : IndexId) (d : Bool) (y : AddrField) (s : State) : Host.Outcome State Fault Refusal := runLive s (effJcy j d y s)

/-- JSX (R347): `X[J] <- wrap18(p + 1)` and `pc <- EA`. -/
def effJsx (j : IndexId) (d : Bool) (y : AddrField) (s : State) (cur : SeqId) : Action := do
  let ea ← eaPlain s d y
  transferIf s true [.x j (wrap18 (((seqAt s cur).pc.toNat : Int) + 1))] ea

/-- The meaning of JSX (R347). -/
def execJsx (j : IndexId) (d : Bool) (y : AddrField) (s : State) : Host.Outcome State Fault Refusal := runLive s (effJsx j d y s)

end Sys2Proof.Machine
end

