-- ==== Sys2Proof/Machine/Index.lean ====
section
/-! DEFINITION. Index-register instructions (42_index.md). J names the operand register and the address is not indexed (R299). Each instruction has its effect set, and its meaning: that effect set run for the live sequence. -/

namespace Sys2Proof.Machine

/-- LDX (R300): `X[J] <- MemRead(EA)[17:0]`. -/
def effLdx (j : IndexId) (d : Bool) (y : AddrField) (s : State) (_cur : SeqId) : Action := do
  let ea ← eaPlain s d y
  let m ← memRead s ea
  return advanceWith [.x j (m.extractLsb' 0 18)]

/-- The meaning of LDX (R300). -/
def execLdx (j : IndexId) (d : Bool) (y : AddrField) (s : State) : Host.Outcome State Fault Refusal := runLive s (effLdx j d y s)

/-- STX (R301): `MemWrite(EA, wrap36(s18(X[J])))`. -/
def effStx (j : IndexId) (d : Bool) (y : AddrField) (s : State) (_cur : SeqId) : Action := do
  let ea ← eaPlain s d y
  let w ← memWrite s ea (wrap36 (s18 (readX s j)))
  return advanceWith [w]

/-- The meaning of STX (R301). -/
def execStx (j : IndexId) (d : Bool) (y : AddrField) (s : State) : Host.Outcome State Fault Refusal := runLive s (effStx j d y s)

/-- LIX (R302): `X[J] <- zext_18(Y)`. -/
def effLix (j : IndexId) (y : AddrField) (_s : State) (_cur : SeqId) : Action :=
  .ok (advanceWith [.x j (immUnsigned y)])

/-- The meaning of LIX (R302). -/
def execLix (j : IndexId) (y : AddrField) (s : State) : Host.Outcome State Fault Refusal := runLive s (effLix j y s)

/-- ADX (R303): `X[J] <- wrap18(X[J] + dY)`. -/
def effAdx (j : IndexId) (y : AddrField) (s : State) (_cur : SeqId) : Action :=
  .ok (advanceWith [.x j (wrap18 (((readX s j).toNat : Int) + immSigned y))])

/-- The meaning of ADX (R303). -/
def execAdx (j : IndexId) (y : AddrField) (s : State) : Host.Outcome State Fault Refusal := runLive s (effAdx j y s)

/-- TXA (R304): `A <- wrap36(s18(X[J]))`. -/
def effTxa (j : IndexId) (s : State) (_cur : SeqId) : Action :=
  .ok (advanceWith [.a (wrap36 (s18 (readX s j)))])

/-- The meaning of TXA (R304). -/
def execTxa (j : IndexId) (s : State) : Host.Outcome State Fault Refusal := runLive s (effTxa j s)

/-- TAX (R305): `X[J] <- A[17:0]`. -/
def effTax (j : IndexId) (s : State) (_cur : SeqId) : Action :=
  .ok (advanceWith [.x j (s.a.extractLsb' 0 18)])

/-- The meaning of TAX (R305). -/
def execTax (j : IndexId) (s : State) : Host.Outcome State Fault Refusal := runLive s (effTax j s)

/-- DJP (R306): if `s18(X[J]) > 0`, `X[J] <- wrap18(X[J] - 1)` and `pc <- EA`; else nothing. -/
def effDjp (j : IndexId) (d : Bool) (y : AddrField) (s : State) (_cur : SeqId) : Action := do
  let ea ← eaPlain s d y
  transferIf s (0 < s18 (readX s j)) [.x j (wrap18 (((readX s j).toNat : Int) - 1))] ea

/-- The meaning of DJP (R306). -/
def execDjp (j : IndexId) (d : Bool) (y : AddrField) (s : State) : Host.Outcome State Fault Refusal := runLive s (effDjp j d y s)

end Sys2Proof.Machine
end

