-- ==== Sys2Proof/Machine/LoadStore.lean ====
section
/-! DEFINITION. Loads, stores and immediate loads (41_load_store.md). None of them reads or writes a flag (R259). Each instruction has its effect set, and its meaning: that effect set run for the live sequence. -/

namespace Sys2Proof.Machine

/-- LDA (R260): `A <- MemRead(EA)`. -/
def effLda (j : IndexId) (d : Bool) (y : AddrField) (s : State) (_cur : SeqId) : Action := do
  let m ← operand s j d y
  return advanceWith [.a m]

/-- The meaning of LDA (R260). -/
def execLda (j : IndexId) (d : Bool) (y : AddrField) (s : State) : Host.Outcome State Fault Refusal := runLive s (effLda j d y s)

/-- LDB (R261): `B <- MemRead(EA)`. -/
def effLdb (j : IndexId) (d : Bool) (y : AddrField) (s : State) (_cur : SeqId) : Action := do
  let m ← operand s j d y
  return advanceWith [.b m]

/-- The meaning of LDB (R261). -/
def execLdb (j : IndexId) (d : Bool) (y : AddrField) (s : State) : Host.Outcome State Fault Refusal := runLive s (effLdb j d y s)

/-- STA (R262): `MemWrite(EA, A)`. -/
def effSta (j : IndexId) (d : Bool) (y : AddrField) (s : State) (_cur : SeqId) : Action := do
  let ea ← eaIndexed s j d y
  let w ← memWrite s ea s.a
  return advanceWith [w]

/-- The meaning of STA (R262). -/
def execSta (j : IndexId) (d : Bool) (y : AddrField) (s : State) : Host.Outcome State Fault Refusal := runLive s (effSta j d y s)

/-- STB (R263): `MemWrite(EA, B)`. -/
def effStb (j : IndexId) (d : Bool) (y : AddrField) (s : State) (_cur : SeqId) : Action := do
  let ea ← eaIndexed s j d y
  let w ← memWrite s ea s.b
  return advanceWith [w]

/-- The meaning of STB (R263). -/
def execStb (j : IndexId) (d : Bool) (y : AddrField) (s : State) : Host.Outcome State Fault Refusal := runLive s (effStb j d y s)

/-- STZ (R264): `MemWrite(EA, 0)`. -/
def effStz (j : IndexId) (d : Bool) (y : AddrField) (s : State) (_cur : SeqId) : Action := do
  let ea ← eaIndexed s j d y
  let w ← memWrite s ea 0#36
  return advanceWith [w]

/-- The meaning of STZ (R264). -/
def execStz (j : IndexId) (d : Bool) (y : AddrField) (s : State) : Host.Outcome State Fault Refusal := runLive s (effStz j d y s)

/-- LIA (R265): `A <- wrap36(Y + s18(X[J]))`. -/
def effLia (j : IndexId) (y : AddrField) (s : State) (_cur : SeqId) : Action :=
  .ok (advanceWith [.a (wrap36 (indexed s j y))])

/-- The meaning of LIA (R265). -/
def execLia (j : IndexId) (y : AddrField) (s : State) : Host.Outcome State Fault Refusal := runLive s (effLia j y s)

/-- LIB (R266): `B <- wrap36(Y + s18(X[J]))`. -/
def effLib (j : IndexId) (y : AddrField) (s : State) (_cur : SeqId) : Action :=
  .ok (advanceWith [.b (wrap36 (indexed s j y))])

/-- The meaning of LIB (R266). -/
def execLib (j : IndexId) (y : AddrField) (s : State) : Host.Outcome State Fault Refusal := runLive s (effLib j y s)

end Sys2Proof.Machine
end

