-- ==== Sys2Proof/Machine/LogicShift.lean ====
section
/-! DEFINITION. Logical operations and shifts (45_logic_shift.md). None writes ov; only SHL, SHR and SAR with n ≥ 1 write cy (R419). Each instruction has its effect set, and its meaning: that effect set run for the live sequence. -/

namespace Sys2Proof.Machine

/-- AND (R420): `A <- A & MemRead(EA)`. -/
def effAnd (j : IndexId) (d : Bool) (y : AddrField) (s : State) (_cur : SeqId) : Action := do
  let m ← operand s j d y
  return advanceWith [.a (s.a &&& m)]

/-- The meaning of AND (R420). -/
def execAnd (j : IndexId) (d : Bool) (y : AddrField) (s : State) : Host.Outcome State Fault Refusal := runLive s (effAnd j d y s)

/-- IOR (R421): `A <- A | MemRead(EA)`. -/
def effIor (j : IndexId) (d : Bool) (y : AddrField) (s : State) (_cur : SeqId) : Action := do
  let m ← operand s j d y
  return advanceWith [.a (s.a ||| m)]

/-- The meaning of IOR (R421). -/
def execIor (j : IndexId) (d : Bool) (y : AddrField) (s : State) : Host.Outcome State Fault Refusal := runLive s (effIor j d y s)

/-- XOR (R422): `A <- A ^ MemRead(EA)`. -/
def effXor (j : IndexId) (d : Bool) (y : AddrField) (s : State) (_cur : SeqId) : Action := do
  let m ← operand s j d y
  return advanceWith [.a (s.a ^^^ m)]

/-- The meaning of XOR (R422). -/
def execXor (j : IndexId) (d : Bool) (y : AddrField) (s : State) : Host.Outcome State Fault Refusal := runLive s (effXor j d y s)

/-- SHL (R423): shift A left by n; nothing for n = 0. -/
def effShl (n : Config6) (s : State) (cur : SeqId) : Action :=
  if n = 0#6 then .ok (advanceWith [])
  else .ok (advanceWith [.a (shlResult s.a n), .seqCy cur (shlCarry s.a n)])

/-- The meaning of SHL (R423). -/
def execShl (n : Config6) (s : State) : Host.Outcome State Fault Refusal := runLive s (effShl n s)

/-- SHR (R424): shift A right by n, zero fill; nothing for n = 0. -/
def effShr (n : Config6) (s : State) (cur : SeqId) : Action :=
  if n = 0#6 then .ok (advanceWith [])
  else .ok (advanceWith [.a (shrResult s.a n), .seqCy cur (shrCarry s.a n)])

/-- The meaning of SHR (R424). -/
def execShr (n : Config6) (s : State) : Host.Outcome State Fault Refusal := runLive s (effShr n s)

/-- SAR (R425): shift A right by n, sign fill; nothing for n = 0. -/
def effSar (n : Config6) (s : State) (cur : SeqId) : Action :=
  if n = 0#6 then .ok (advanceWith [])
  else .ok (advanceWith [.a (sarResult s.a n), .seqCy cur (sarCarry s.a n)])

/-- The meaning of SAR (R425). -/
def execSar (n : Config6) (s : State) : Host.Outcome State Fault Refusal := runLive s (effSar n s)

/-- ROL (R426): rotate A left by n mod 36. -/
def effRol (n : Config6) (s : State) (_cur : SeqId) : Action :=
  .ok (advanceWith [.a (rolResult s.a n)])

/-- The meaning of ROL (R426). -/
def execRol (n : Config6) (s : State) : Host.Outcome State Fault Refusal := runLive s (effRol n s)

/-- ROR (R427): rotate A right by n mod 36. -/
def effRor (n : Config6) (s : State) (_cur : SeqId) : Action :=
  .ok (advanceWith [.a (rorResult s.a n)])

/-- The meaning of ROR (R427). -/
def execRor (n : Config6) (s : State) : Host.Outcome State Fault Refusal := runLive s (effRor n s)

end Sys2Proof.Machine
end

