-- ==== Sys2Proof/Machine/Operate.lean ====
section
/-! DEFINITION. The operate group (47_operate.md): no memory access, no alarm (R479). Each instruction has its effect set, and its meaning: that effect set run for the live sequence. -/

namespace Sys2Proof.Machine

/-- NOP (R480): nothing but the pc's advance. -/
def effNop (_s : State) (_cur : SeqId) : Action :=
  .ok (advanceWith [])

/-- The meaning of NOP (R480). -/
def execNop (s : State) : Host.Outcome State Fault Refusal := runLive s (effNop s)

/-- CLA (R481): `A <- 0`. -/
def effCla (_s : State) (_cur : SeqId) : Action :=
  .ok (advanceWith [.a 0#36])

/-- The meaning of CLA (R481). -/
def execCla (s : State) : Host.Outcome State Fault Refusal := runLive s (effCla s)

/-- COM (R482): `A <- ~A`. -/
def effCom (s : State) (_cur : SeqId) : Action :=
  .ok (advanceWith [.a (~~~s.a)])

/-- The meaning of COM (R482). -/
def execCom (s : State) : Host.Outcome State Fault Refusal := runLive s (effCom s)

/-- NEG (R483): 0 - A as a subtraction with k = 1: A, cy <- c, ov <- ov OR v. -/
def effNeg (s : State) (cur : SeqId) : Action :=
  .ok (advanceWith [.a (aluSub 0#36 s.a true).result, .seqCy cur (aluSub 0#36 s.a true).carry,
    .seqOv cur ((seqAt s cur).ov || (aluSub 0#36 s.a true).overflow)])

/-- The meaning of NEG (R483). -/
def execNeg (s : State) : Host.Outcome State Fault Refusal := runLive s (effNeg s)

/-- XAB (R484): exchange A and B, both from the start-of-cycle values. -/
def effXab (s : State) (_cur : SeqId) : Action :=
  .ok (advanceWith [.a s.b, .b s.a])

/-- The meaning of XAB (R484). -/
def execXab (s : State) : Host.Outcome State Fault Refusal := runLive s (effXab s)

/-- TAB (R485): `B <- A`. -/
def effTab (s : State) (_cur : SeqId) : Action :=
  .ok (advanceWith [.b s.a])

/-- The meaning of TAB (R485). -/
def execTab (s : State) : Host.Outcome State Fault Refusal := runLive s (effTab s)

/-- TBA (R486): `A <- B`. -/
def effTba (s : State) (_cur : SeqId) : Action :=
  .ok (advanceWith [.a s.b])

/-- The meaning of TBA (R486). -/
def execTba (s : State) : Host.Outcome State Fault Refusal := runLive s (effTba s)

/-- CLC (R487): `SEQ[cur].cy <- 0`. -/
def effClc (_s : State) (cur : SeqId) : Action :=
  .ok (advanceWith [.seqCy cur false])

/-- The meaning of CLC (R487). -/
def execClc (s : State) : Host.Outcome State Fault Refusal := runLive s (effClc s)

/-- SEC (R488): `SEQ[cur].cy <- 1`. -/
def effSec (_s : State) (cur : SeqId) : Action :=
  .ok (advanceWith [.seqCy cur true])

/-- The meaning of SEC (R488). -/
def execSec (s : State) : Host.Outcome State Fault Refusal := runLive s (effSec s)

/-- CLO (R489): `SEQ[cur].ov <- 0`. -/
def effClo (_s : State) (cur : SeqId) : Action :=
  .ok (advanceWith [.seqOv cur false])

/-- The meaning of CLO (R489). -/
def execClo (s : State) : Host.Outcome State Fault Refusal := runLive s (effClo s)

/-- HLT (R490): `halt ExplicitHalt`: the pc is not advanced and nothing but the mode changes. -/
def effHlt (_s : State) (_cur : SeqId) : Action :=
  .error .halt

/-- The meaning of HLT (R490). -/
def execHlt (s : State) : Host.Outcome State Fault Refusal := runLive s (effHlt s)

end Sys2Proof.Machine
end

