-- ==== Sys2Proof/Machine/Sequence.lean ====
section
/-! DEFINITION. Sequence control and alarm status (48_sequence.md). The sequence id is checked before anything else (R519). Each instruction has its effect set, and its meaning: that effect set run for the live sequence. -/

namespace Sys2Proof.Machine

/-- The sequence status word (10_state.md R61): en at bit 35, ov at 34, cy at 33, bits 32..26 zero, prio at 25..18, pc at 17..0. -/
def seqStatus (r : SeqRec) : Word :=
  BitVec.ofNat 36 (r.en.toNat * 2 ^ 35 + r.ov.toNat * 2 ^ 34 + r.cy.toNat * 2 ^ 33 + r.prio.toNat * 2 ^ 18 + r.pc.toNat)

/-- The alarm status word (10_state.md R64): valid at bit 35, kind at 34..32, bits 31..24 zero, seq at 23..18, pc at 17..0. -/
def alarmStatus (r : Asr) : Word :=
  BitVec.ofNat 36 (r.valid.toNat * 2 ^ 35 + r.kind.toNat * 2 ^ 32 + r.seq.toNat * 2 ^ 18 + r.pc.toNat)

/-- SEN (R520): `SEQ[n].en <- 1`. -/
def effSen (n : SeqId) (s : State) (_cur : SeqId) : Action := do
  checkSeq s n
  return advanceWith [.seqEn n true]

/-- The meaning of SEN (R520). -/
def execSen (n : SeqId) (s : State) : Host.Outcome State Fault Refusal := runLive s (effSen n s)

/-- SDS (R521): `SEQ[n].en <- 0`; for n = cur the pc still advances (40_cycle.md R233). -/
def effSds (n : SeqId) (s : State) (_cur : SeqId) : Action := do
  checkSeq s n
  return advanceWith [.seqEn n false]

/-- The meaning of SDS (R521). -/
def execSds (n : SeqId) (s : State) : Host.Outcome State Fault Refusal := runLive s (effSds n s)

/-- SPR (R522): `SEQ[n].prio <- I mod 256`. -/
def effSpr (n : SeqId) (j : IndexId) (y : AddrField) (s : State) (_cur : SeqId) : Action := do
  checkSeq s n
  return advanceWith [.seqPrio n (BitVec.ofInt 8 (indexed s j y))]

/-- The meaning of SPR (R522). -/
def execSpr (n : SeqId) (j : IndexId) (y : AddrField) (s : State) : Host.Outcome State Fault Refusal := runLive s (effSpr n j y s)

/-- SPC (R523): `SEQ[n].pc <- EA`, checked; for n = cur it is the explicit next-pc (40_cycle.md R233). -/
def effSpc (n : SeqId) (j : IndexId) (d : Bool) (y : AddrField) (s : State) (cur : SeqId) : Action := do
  checkSeq s n
  let ea ← eaIndexed s j d y
  let t ← target s ea
  return if n = cur then jumpWith [] t else advanceWith [.seqPc n t]

/-- The meaning of SPC (R523). -/
def execSpc (n : SeqId) (j : IndexId) (d : Bool) (y : AddrField) (s : State) : Host.Outcome State Fault Refusal := runLive s (effSpc n j d y s)

/-- RSS (R524): A <- the status word of sequence n. -/
def effRss (n : SeqId) (s : State) (_cur : SeqId) : Action := do
  checkSeq s n
  return advanceWith [.a (seqStatus (seqAt s n))]

/-- The meaning of RSS (R524). -/
def execRss (n : SeqId) (s : State) : Host.Outcome State Fault Refusal := runLive s (effRss n s)

/-- RAS (R525): A <- the alarm status register that k selects; k ≥ 3 is illegal (30_encoding.md R148 (c); log entry 12). -/
def effRas (k : Config6) (s : State) (_cur : SeqId) : Action :=
  match k.toNat with
  | 0 => .ok (advanceWith [.a (alarmStatus s.asr)])
  | 1 => .ok (advanceWith [.a s.asr.word])
  | 2 => .ok (advanceWith [.a s.asr.info])
  | _ => .error (.raise .illegalInstruction 0)

/-- The meaning of RAS (R525). -/
def execRas (k : Config6) (s : State) : Host.Outcome State Fault Refusal := runLive s (effRas k s)

/-- DIS (R526): `SEQ[cur].en <- 0`; the pc advances. -/
def effDis (_s : State) (cur : SeqId) : Action :=
  .ok (advanceWith [.seqEn cur false])

/-- The meaning of DIS (R526). -/
def execDis (s : State) : Host.Outcome State Fault Refusal := runLive s (effDis s)

/-- RSI (R527): `A <- zext_36(cur)`. -/
def effRsi (_s : State) (cur : SeqId) : Action :=
  .ok (advanceWith [.a (cur.setWidth 36)])

/-- The meaning of RSI (R527). -/
def execRsi (s : State) : Host.Outcome State Fault Refusal := runLive s (effRsi s)

/-- ACK (R528): `ASR.valid <- 0`; the other ASR fields are kept. -/
def effAck (_s : State) (_cur : SeqId) : Action :=
  .ok (advanceWith [.asrValid false])

/-- The meaning of ACK (R528). -/
def execAck (s : State) : Host.Outcome State Fault Refusal := runLive s (effAck s)

end Sys2Proof.Machine
end

