-- ==== Sys2Proof/Machine/Tape.lean ====
section
/-! DEFINITION. Tape read and punch (49_io.md). Each instruction has its effect set, and its meaning: that effect set run for the live sequence. -/

namespace Sys2Proof.Machine

/-- RDT (R560): the next tape word to A and the cursor moved, or at end of tape `pc <- EA`, checked. The indirect read happens in both cases. -/
def effRdt (j : IndexId) (d : Bool) (y : AddrField) (s : State) (_cur : SeqId) : Action := do
  let ea ← eaIndexed s j d y
  match s.tapeIn[s.tc]? with
  | some w => return advanceWith [.a w, .tapeCursor (s.tc + 1)]
  | none => transferIf s true [] ea

/-- The meaning of RDT (R560). -/
def execRdt (j : IndexId) (d : Bool) (y : AddrField) (s : State) : Host.Outcome State Fault Refusal := runLive s (effRdt j d y s)

/-- PCH (R561): `P_out <- P_out ++ [A]`. -/
def effPch (s : State) (_cur : SeqId) : Action :=
  .ok (advanceWith [.punch s.a])

/-- The meaning of PCH (R561). -/
def execPch (s : State) : Host.Outcome State Fault Refusal := runLive s (effPch s)

end Sys2Proof.Machine
end

