-- ==== Sys2Proof/Machine/Dispatch.lean ====
section
/-! DEFINITION. The dispatch of the execute phase (40_cycle.md R224): one arm per instruction, in the order of spec/opcode_table.json. -/

namespace Sys2Proof.Machine

/-- EXECUTE and COMMIT of a decoded instruction for the live sequence (40_cycle.md R224, R230, R235). -/
def exec (i : Instr) (s : State) : Host.Outcome State Fault Refusal :=
  match i with
  | .nop => Sys2Proof.Machine.execNop s
  | .cla => Sys2Proof.Machine.execCla s
  | .com => Sys2Proof.Machine.execCom s
  | .neg => Sys2Proof.Machine.execNeg s
  | .xab => Sys2Proof.Machine.execXab s
  | .tab => Sys2Proof.Machine.execTab s
  | .tba => Sys2Proof.Machine.execTba s
  | .clc => Sys2Proof.Machine.execClc s
  | .sec => Sys2Proof.Machine.execSec s
  | .clo => Sys2Proof.Machine.execClo s
  | .rsi => Sys2Proof.Machine.execRsi s
  | .dis => Sys2Proof.Machine.execDis s
  | .ack => Sys2Proof.Machine.execAck s
  | .pch => Sys2Proof.Machine.execPch s
  | .hlt => Sys2Proof.Machine.execHlt s
  | .shl n => Sys2Proof.Machine.execShl n s
  | .shr n => Sys2Proof.Machine.execShr n s
  | .sar n => Sys2Proof.Machine.execSar n s
  | .rol n => Sys2Proof.Machine.execRol n s
  | .ror n => Sys2Proof.Machine.execRor n s
  | .lda j d y => Sys2Proof.Machine.execLda j d y s
  | .ldb j d y => Sys2Proof.Machine.execLdb j d y s
  | .sta j d y => Sys2Proof.Machine.execSta j d y s
  | .stb j d y => Sys2Proof.Machine.execStb j d y s
  | .stz j d y => Sys2Proof.Machine.execStz j d y s
  | .lia j y => Sys2Proof.Machine.execLia j y s
  | .lib j y => Sys2Proof.Machine.execLib j y s
  | .ldx j d y => Sys2Proof.Machine.execLdx j d y s
  | .stx j d y => Sys2Proof.Machine.execStx j d y s
  | .lix j y => Sys2Proof.Machine.execLix j y s
  | .adx j y => Sys2Proof.Machine.execAdx j y s
  | .txa j => Sys2Proof.Machine.execTxa j s
  | .tax j => Sys2Proof.Machine.execTax j s
  | .djp j d y => Sys2Proof.Machine.execDjp j d y s
  | .jmp j d y => Sys2Proof.Machine.execJmp j d y s
  | .jaz j d y => Sys2Proof.Machine.execJaz j d y s
  | .jnz j d y => Sys2Proof.Machine.execJnz j d y s
  | .jan j d y => Sys2Proof.Machine.execJan j d y s
  | .jap j d y => Sys2Proof.Machine.execJap j d y s
  | .jov j d y => Sys2Proof.Machine.execJov j d y s
  | .jcy j d y => Sys2Proof.Machine.execJcy j d y s
  | .jsx j d y => Sys2Proof.Machine.execJsx j d y s
  | .add j d y => Sys2Proof.Machine.execAdd j d y s
  | .sub j d y => Sys2Proof.Machine.execSub j d y s
  | .adc j d y => Sys2Proof.Machine.execAdc j d y s
  | .sbc j d y => Sys2Proof.Machine.execSbc j d y s
  | .adv j d y => Sys2Proof.Machine.execAdv j d y s
  | .sbv j d y => Sys2Proof.Machine.execSbv j d y s
  | .mul j d y => Sys2Proof.Machine.execMul j d y s
  | .div j d y => Sys2Proof.Machine.execDiv j d y s
  | .and j d y => Sys2Proof.Machine.execAnd j d y s
  | .ior j d y => Sys2Proof.Machine.execIor j d y s
  | .xor j d y => Sys2Proof.Machine.execXor j d y s
  | .ske j d y => Sys2Proof.Machine.execSke j d y s
  | .skn j d y => Sys2Proof.Machine.execSkn j d y s
  | .skl j d y => Sys2Proof.Machine.execSkl j d y s
  | .skg j d y => Sys2Proof.Machine.execSkg j d y s
  | .sen n => Sys2Proof.Machine.execSen n s
  | .sds n => Sys2Proof.Machine.execSds n s
  | .spr n j y => Sys2Proof.Machine.execSpr n j y s
  | .spc n j d y => Sys2Proof.Machine.execSpc n j d y s
  | .rss n => Sys2Proof.Machine.execRss n s
  | .ras k => Sys2Proof.Machine.execRas k s
  | .rdt j d y => Sys2Proof.Machine.execRdt j d y s

end Sys2Proof.Machine
end

