-- ==== Sys2Proof/WellFormed.lean ====
section
/-! DEFINITION. Which instruction terms and which field values are legal (30_encoding.md R143, R148, R152). -/

namespace Sys2Proof

/-- The instruction terms that a word encodes. Every field has its width by its type, and a must-be-zero field has no argument (R143), so the
one check left is RAS's selector: `C ≤ 2` (R147, R148 (c)). -/
def Instr.wellFormed : Instr → Bool
  | .nop => true
  | .cla => true
  | .com => true
  | .neg => true
  | .xab => true
  | .tab => true
  | .tba => true
  | .clc => true
  | .sec => true
  | .clo => true
  | .rsi => true
  | .dis => true
  | .ack => true
  | .pch => true
  | .hlt => true
  | .shl _ => true
  | .shr _ => true
  | .sar _ => true
  | .rol _ => true
  | .ror _ => true
  | .lda _ _ _ => true
  | .ldb _ _ _ => true
  | .sta _ _ _ => true
  | .stb _ _ _ => true
  | .stz _ _ _ => true
  | .lia _ _ => true
  | .lib _ _ => true
  | .ldx _ _ _ => true
  | .stx _ _ _ => true
  | .lix _ _ => true
  | .adx _ _ => true
  | .txa _ => true
  | .tax _ => true
  | .djp _ _ _ => true
  | .jmp _ _ _ => true
  | .jaz _ _ _ => true
  | .jnz _ _ _ => true
  | .jan _ _ _ => true
  | .jap _ _ _ => true
  | .jov _ _ _ => true
  | .jcy _ _ _ => true
  | .jsx _ _ _ => true
  | .add _ _ _ => true
  | .sub _ _ _ => true
  | .adc _ _ _ => true
  | .sbc _ _ _ => true
  | .adv _ _ _ => true
  | .sbv _ _ _ => true
  | .mul _ _ _ => true
  | .div _ _ _ => true
  | .and _ _ _ => true
  | .ior _ _ _ => true
  | .xor _ _ _ => true
  | .ske _ _ _ => true
  | .skn _ _ _ => true
  | .skl _ _ _ => true
  | .skg _ _ _ => true
  | .sen _ => true
  | .sds _ => true
  | .spr _ _ _ => true
  | .spc _ _ _ _ => true
  | .rss _ => true
  | .ras k => k.toNat ≤ 2
  | .rdt _ _ _ => true

/-- Every field value fits its width (R141, R152: "every field fits its width"). -/
def Fields.fit (f : Fields) : Bool :=
  f.c < 2 ^ 6 && f.op < 2 ^ 6 && f.j < 2 ^ 6 && f.d < 2 ^ 1 && f.y < 2 ^ 17

end Sys2Proof
end

