-- ==== Sys2Proof/Decode.lean ====
section
/-! DEFINITION. The instruction decoder and encoder (30_encoding.md): the fields of a word (R141), the class of an opcode (R144), the
must-be-zero check (R143), the opcode map (R145, R146), and the opcode table as data (R147). -/

namespace Sys2Proof

/-- The field C = w[35:30] (R141). -/
def fieldC (w : Word) : Config6 := w.extractLsb' 30 6
/-- The field OP = w[29:24] (R141). -/
def fieldOp (w : Word) : Opcode := w.extractLsb' 24 6
/-- The field J = w[23:18] (R141). -/
def fieldJ (w : Word) : IndexId := w.extractLsb' 18 6
/-- The field D = w[17] (R141). -/
def fieldD (w : Word) : Bool := w.getLsbD 17
/-- The field Y = w[16:0] (R141). -/
def fieldY (w : Word) : AddrField := w.extractLsb' 0 17

/-- `w = C ++ OP ++ J ++ D ++ Y`, that is `u(w) = C*2^30 + OP*2^24 + J*2^18 + D*2^17 + Y` (R141). -/
def pack (c : Config6) (op : Opcode) (j : IndexId) (d : Bool) (y : AddrField) : Word :=
  BitVec.ofNat 36 (c.toNat * 2 ^ 30 + op.toNat * 2 ^ 24 + j.toNat * 2 ^ 18 + d.toNat * 2 ^ 17 + y.toNat)

/-- The class of an opcode (R144), none for the fourteen reserved opcodes (R145). -/
def opcodeClass (op : Opcode) : Option OperandClass :=
  match op.toNat with
  | 0o01 => some .r
  | 0o02 | 0o03 | 0o04 | 0o05 | 0o06 => some .s
  | 0o10 | 0o11 | 0o12 | 0o13 | 0o14 | 0o40 | 0o41 | 0o42 | 0o43 | 0o44 | 0o45 | 0o46 | 0o47 | 0o50 | 0o51 | 0o52 | 0o54 | 0o55 | 0o56 | 0o57 => some .m
  | 0o15 | 0o16 => some .i
  | 0o20 | 0o21 | 0o26 | 0o37 => some .xm
  | 0o22 | 0o23 => some .xi
  | 0o24 | 0o25 => some .xr
  | 0o30 | 0o31 | 0o32 | 0o33 | 0o34 | 0o35 | 0o36 | 0o70 => some .t
  | 0o60 | 0o61 | 0o64 => some .qr
  | 0o62 => some .qi
  | 0o63 => some .qt
  | 0o65 => some .p
  | _ => none

/-- Whether every field that the class marks must-be-zero is zero (R143). -/
def mbzZero (cls : OperandClass) (c : Config6) (j : IndexId) (d : Bool) (y : AddrField) : Bool :=
  match cls with
  | .m | .t | .xm => c == 0
  | .i | .xi => c == 0 && d == false
  | .xr => c == 0 && d == false && y == 0
  | .s | .r | .qr | .p => j == 0 && d == false && y == 0
  | .qi => d == false
  | .qt => true

/-- The OPR sub-operation that C selects (R146); the others are reserved (R148 (b)). -/
def decodeOperate (c : Config6) : Except Illegal Instr :=
  match c.toNat with
  | 0o00 => .ok .nop
  | 0o01 => .ok .cla
  | 0o02 => .ok .com
  | 0o03 => .ok .neg
  | 0o04 => .ok .xab
  | 0o05 => .ok .tab
  | 0o06 => .ok .tba
  | 0o07 => .ok .clc
  | 0o10 => .ok .sec
  | 0o11 => .ok .clo
  | 0o12 => .ok .rsi
  | 0o13 => .ok .dis
  | 0o14 => .ok .ack
  | 0o15 => .ok .pch
  | 0o16 => .ok .hlt
  | _ => .error .reservedOperate

/-- The instruction of an opcode, for fields that pass `mbzZero` (R145). -/
def decodeOpcode (op : Opcode) (c : Config6) (j : IndexId) (d : Bool) (y : AddrField) : Except Illegal Instr :=
  match op.toNat with
  | 0o01 => decodeOperate c
  | 0o02 => .ok (.shl c)
  | 0o03 => .ok (.shr c)
  | 0o04 => .ok (.sar c)
  | 0o05 => .ok (.rol c)
  | 0o06 => .ok (.ror c)
  | 0o10 => .ok (.lda j d y)
  | 0o11 => .ok (.ldb j d y)
  | 0o12 => .ok (.sta j d y)
  | 0o13 => .ok (.stb j d y)
  | 0o14 => .ok (.stz j d y)
  | 0o15 => .ok (.lia j y)
  | 0o16 => .ok (.lib j y)
  | 0o20 => .ok (.ldx j d y)
  | 0o21 => .ok (.stx j d y)
  | 0o22 => .ok (.lix j y)
  | 0o23 => .ok (.adx j y)
  | 0o24 => .ok (.txa j)
  | 0o25 => .ok (.tax j)
  | 0o26 => .ok (.djp j d y)
  | 0o30 => .ok (.jmp j d y)
  | 0o31 => .ok (.jaz j d y)
  | 0o32 => .ok (.jnz j d y)
  | 0o33 => .ok (.jan j d y)
  | 0o34 => .ok (.jap j d y)
  | 0o35 => .ok (.jov j d y)
  | 0o36 => .ok (.jcy j d y)
  | 0o37 => .ok (.jsx j d y)
  | 0o40 => .ok (.add j d y)
  | 0o41 => .ok (.sub j d y)
  | 0o42 => .ok (.adc j d y)
  | 0o43 => .ok (.sbc j d y)
  | 0o44 => .ok (.adv j d y)
  | 0o45 => .ok (.sbv j d y)
  | 0o46 => .ok (.mul j d y)
  | 0o47 => .ok (.div j d y)
  | 0o50 => .ok (.and j d y)
  | 0o51 => .ok (.ior j d y)
  | 0o52 => .ok (.xor j d y)
  | 0o54 => .ok (.ske j d y)
  | 0o55 => .ok (.skn j d y)
  | 0o56 => .ok (.skl j d y)
  | 0o57 => .ok (.skg j d y)
  | 0o60 => .ok (.sen c)
  | 0o61 => .ok (.sds c)
  | 0o62 => .ok (.spr c j y)
  | 0o63 => .ok (.spc c j d y)
  | 0o64 => .ok (.rss c)
  | 0o65 => if c.toNat ≤ 2 then .ok (.ras c) else .error .reservedSelector
  | 0o70 => .ok (.rdt j d y)
  | _ => .error .reservedOpcode

/-- `decode` (R152): total on every word, answering one instruction or why the word is illegal (R148). It reads the word alone (R149).
The spec answers `illegal` without a ground, and orders none: that a word illegal on several is named `mustBeZero`, before `reservedOperate` and
`reservedSelector`, is a DESIGN CHOICE (log entry 23). -/
def decode (w : Word) : Except Illegal Instr :=
  match opcodeClass (fieldOp w) with
  | none => .error .reservedOpcode
  | some cls =>
    if mbzZero cls (fieldC w) (fieldJ w) (fieldD w) (fieldY w) then
      decodeOpcode (fieldOp w) (fieldC w) (fieldJ w) (fieldD w) (fieldY w)
    else .error .mustBeZero

/-- The word of an instruction, written from the opcode map and the class table (R143, R145, R146). For the words that R152 speaks of see
`encodeChecked`. -/
def encode : Instr → Word
  | .nop => pack 0o00 0o01 0 false 0
  | .cla => pack 0o01 0o01 0 false 0
  | .com => pack 0o02 0o01 0 false 0
  | .neg => pack 0o03 0o01 0 false 0
  | .xab => pack 0o04 0o01 0 false 0
  | .tab => pack 0o05 0o01 0 false 0
  | .tba => pack 0o06 0o01 0 false 0
  | .clc => pack 0o07 0o01 0 false 0
  | .sec => pack 0o10 0o01 0 false 0
  | .clo => pack 0o11 0o01 0 false 0
  | .rsi => pack 0o12 0o01 0 false 0
  | .dis => pack 0o13 0o01 0 false 0
  | .ack => pack 0o14 0o01 0 false 0
  | .pch => pack 0o15 0o01 0 false 0
  | .hlt => pack 0o16 0o01 0 false 0
  | .shl n => pack n 0o02 0 false 0
  | .shr n => pack n 0o03 0 false 0
  | .sar n => pack n 0o04 0 false 0
  | .rol n => pack n 0o05 0 false 0
  | .ror n => pack n 0o06 0 false 0
  | .lda j d y => pack 0 0o10 j d y
  | .ldb j d y => pack 0 0o11 j d y
  | .sta j d y => pack 0 0o12 j d y
  | .stb j d y => pack 0 0o13 j d y
  | .stz j d y => pack 0 0o14 j d y
  | .lia j y => pack 0 0o15 j false y
  | .lib j y => pack 0 0o16 j false y
  | .ldx j d y => pack 0 0o20 j d y
  | .stx j d y => pack 0 0o21 j d y
  | .lix j y => pack 0 0o22 j false y
  | .adx j y => pack 0 0o23 j false y
  | .txa j => pack 0 0o24 j false 0
  | .tax j => pack 0 0o25 j false 0
  | .djp j d y => pack 0 0o26 j d y
  | .jmp j d y => pack 0 0o30 j d y
  | .jaz j d y => pack 0 0o31 j d y
  | .jnz j d y => pack 0 0o32 j d y
  | .jan j d y => pack 0 0o33 j d y
  | .jap j d y => pack 0 0o34 j d y
  | .jov j d y => pack 0 0o35 j d y
  | .jcy j d y => pack 0 0o36 j d y
  | .jsx j d y => pack 0 0o37 j d y
  | .add j d y => pack 0 0o40 j d y
  | .sub j d y => pack 0 0o41 j d y
  | .adc j d y => pack 0 0o42 j d y
  | .sbc j d y => pack 0 0o43 j d y
  | .adv j d y => pack 0 0o44 j d y
  | .sbv j d y => pack 0 0o45 j d y
  | .mul j d y => pack 0 0o46 j d y
  | .div j d y => pack 0 0o47 j d y
  | .and j d y => pack 0 0o50 j d y
  | .ior j d y => pack 0 0o51 j d y
  | .xor j d y => pack 0 0o52 j d y
  | .ske j d y => pack 0 0o54 j d y
  | .skn j d y => pack 0 0o55 j d y
  | .skl j d y => pack 0 0o56 j d y
  | .skg j d y => pack 0 0o57 j d y
  | .sen n => pack n 0o60 0 false 0
  | .sds n => pack n 0o61 0 false 0
  | .spr n j y => pack n 0o62 j false y
  | .spc n j d y => pack n 0o63 j d y
  | .rss n => pack n 0o64 0 false 0
  | .ras k => pack k 0o65 0 false 0
  | .rdt j d y => pack 0 0o70 j d y

/-- `encode` of R152 on instruction terms: no value for an ill-formed one. -/
def encodeChecked (i : Instr) : Option Word :=
  if i.wellFormed then some (encode i) else none

/-- `encode(fields)` of R152 on field values: defined only when every field fits its width and the word is legal; otherwise refused, never
truncated (93 I6). -/
def encodeFields (f : Fields) : Option Word :=
  if f.fit then
    match decode (pack (BitVec.ofNat 6 f.c) (BitVec.ofNat 6 f.op) (BitVec.ofNat 6 f.j) (f.d == 1) (BitVec.ofNat 17 f.y)) with
    | .ok _ => some (pack (BitVec.ofNat 6 f.c) (BitVec.ofNat 6 f.op) (BitVec.ofNat 6 f.j) (f.d == 1) (BitVec.ofNat 17 f.y))
    | .error _ => none
  else none

/-- The mnemonic of an instruction, as spec/opcode_table.json spells it. -/
def mnemonic : Instr → String
  | .nop => "NOP"
  | .cla => "CLA"
  | .com => "COM"
  | .neg => "NEG"
  | .xab => "XAB"
  | .tab => "TAB"
  | .tba => "TBA"
  | .clc => "CLC"
  | .sec => "SEC"
  | .clo => "CLO"
  | .rsi => "RSI"
  | .dis => "DIS"
  | .ack => "ACK"
  | .pch => "PCH"
  | .hlt => "HLT"
  | .shl _ => "SHL"
  | .shr _ => "SHR"
  | .sar _ => "SAR"
  | .rol _ => "ROL"
  | .ror _ => "ROR"
  | .lda _ _ _ => "LDA"
  | .ldb _ _ _ => "LDB"
  | .sta _ _ _ => "STA"
  | .stb _ _ _ => "STB"
  | .stz _ _ _ => "STZ"
  | .lia _ _ => "LIA"
  | .lib _ _ => "LIB"
  | .ldx _ _ _ => "LDX"
  | .stx _ _ _ => "STX"
  | .lix _ _ => "LIX"
  | .adx _ _ => "ADX"
  | .txa _ => "TXA"
  | .tax _ => "TAX"
  | .djp _ _ _ => "DJP"
  | .jmp _ _ _ => "JMP"
  | .jaz _ _ _ => "JAZ"
  | .jnz _ _ _ => "JNZ"
  | .jan _ _ _ => "JAN"
  | .jap _ _ _ => "JAP"
  | .jov _ _ _ => "JOV"
  | .jcy _ _ _ => "JCY"
  | .jsx _ _ _ => "JSX"
  | .add _ _ _ => "ADD"
  | .sub _ _ _ => "SUB"
  | .adc _ _ _ => "ADC"
  | .sbc _ _ _ => "SBC"
  | .adv _ _ _ => "ADV"
  | .sbv _ _ _ => "SBV"
  | .mul _ _ _ => "MUL"
  | .div _ _ _ => "DIV"
  | .and _ _ _ => "AND"
  | .ior _ _ _ => "IOR"
  | .xor _ _ _ => "XOR"
  | .ske _ _ _ => "SKE"
  | .skn _ _ _ => "SKN"
  | .skl _ _ _ => "SKL"
  | .skg _ _ _ => "SKG"
  | .sen _ => "SEN"
  | .sds _ => "SDS"
  | .spr _ _ _ => "SPR"
  | .spc _ _ _ _ => "SPC"
  | .rss _ => "RSS"
  | .ras _ => "RAS"
  | .rdt _ _ _ => "RDT"

/-- The fields of a word as numbers (R141). -/
def fieldsOf (w : Word) : Fields where
  c := (fieldC w).toNat
  op := (fieldOp w).toNat
  j := (fieldJ w).toNat
  d := (fieldD w).toNat
  y := (fieldY w).toNat

/-- The instruction that the decoder reads from the table's number `w`. An instruction is one 36-bit word (R140), so a number that no word
holds is none. -/
def decodeTableWord (_nbits w : Nat) : Option Instr :=
  if w < 2 ^ 36 then
    match decode (BitVec.ofNat 36 w) with
    | .ok i => some i
    | .error _ => none
  else none

/-- Rows 1 to 16 of spec/opcode_table.json, in its order. -/
def opcodeRows1 : List OpcodeRow := [
  ⟨"NOP", 0o000100000000, 0o777777777777, none⟩,
  ⟨"CLA", 0o010100000000, 0o777777777777, none⟩,
  ⟨"COM", 0o020100000000, 0o777777777777, none⟩,
  ⟨"NEG", 0o030100000000, 0o777777777777, none⟩,
  ⟨"XAB", 0o040100000000, 0o777777777777, none⟩,
  ⟨"TAB", 0o050100000000, 0o777777777777, none⟩,
  ⟨"TBA", 0o060100000000, 0o777777777777, none⟩,
  ⟨"CLC", 0o070100000000, 0o777777777777, none⟩,
  ⟨"SEC", 0o100100000000, 0o777777777777, none⟩,
  ⟨"CLO", 0o110100000000, 0o777777777777, none⟩,
  ⟨"RSI", 0o120100000000, 0o777777777777, none⟩,
  ⟨"DIS", 0o130100000000, 0o777777777777, none⟩,
  ⟨"ACK", 0o140100000000, 0o777777777777, none⟩,
  ⟨"PCH", 0o150100000000, 0o777777777777, none⟩,
  ⟨"HLT", 0o160100000000, 0o777777777777, none⟩,
  ⟨"SHL", 0o000200000000, 0o007777777777, none⟩]

/-- Rows 17 to 32 of spec/opcode_table.json, in its order. -/
def opcodeRows2 : List OpcodeRow := [
  ⟨"SHR", 0o000300000000, 0o007777777777, none⟩,
  ⟨"SAR", 0o000400000000, 0o007777777777, none⟩,
  ⟨"ROL", 0o000500000000, 0o007777777777, none⟩,
  ⟨"ROR", 0o000600000000, 0o007777777777, none⟩,
  ⟨"LDA", 0o001000000000, 0o777700000000, none⟩,
  ⟨"LDB", 0o001100000000, 0o777700000000, none⟩,
  ⟨"STA", 0o001200000000, 0o777700000000, none⟩,
  ⟨"STB", 0o001300000000, 0o777700000000, none⟩,
  ⟨"STZ", 0o001400000000, 0o777700000000, none⟩,
  ⟨"LIA", 0o001500000000, 0o777700400000, none⟩,
  ⟨"LIB", 0o001600000000, 0o777700400000, none⟩,
  ⟨"LDX", 0o002000000000, 0o777700000000, none⟩,
  ⟨"STX", 0o002100000000, 0o777700000000, none⟩,
  ⟨"LIX", 0o002200000000, 0o777700400000, none⟩,
  ⟨"ADX", 0o002300000000, 0o777700400000, none⟩,
  ⟨"TXA", 0o002400000000, 0o777700777777, none⟩]

/-- Rows 33 to 48 of spec/opcode_table.json, in its order. -/
def opcodeRows3 : List OpcodeRow := [
  ⟨"TAX", 0o002500000000, 0o777700777777, none⟩,
  ⟨"DJP", 0o002600000000, 0o777700000000, none⟩,
  ⟨"JMP", 0o003000000000, 0o777700000000, none⟩,
  ⟨"JAZ", 0o003100000000, 0o777700000000, none⟩,
  ⟨"JNZ", 0o003200000000, 0o777700000000, none⟩,
  ⟨"JAN", 0o003300000000, 0o777700000000, none⟩,
  ⟨"JAP", 0o003400000000, 0o777700000000, none⟩,
  ⟨"JOV", 0o003500000000, 0o777700000000, none⟩,
  ⟨"JCY", 0o003600000000, 0o777700000000, none⟩,
  ⟨"JSX", 0o003700000000, 0o777700000000, none⟩,
  ⟨"ADD", 0o004000000000, 0o777700000000, none⟩,
  ⟨"SUB", 0o004100000000, 0o777700000000, none⟩,
  ⟨"ADC", 0o004200000000, 0o777700000000, none⟩,
  ⟨"SBC", 0o004300000000, 0o777700000000, none⟩,
  ⟨"ADV", 0o004400000000, 0o777700000000, none⟩,
  ⟨"SBV", 0o004500000000, 0o777700000000, none⟩]

/-- Rows 49 to 64 of spec/opcode_table.json, in its order. -/
def opcodeRows4 : List OpcodeRow := [
  ⟨"MUL", 0o004600000000, 0o777700000000, none⟩,
  ⟨"DIV", 0o004700000000, 0o777700000000, none⟩,
  ⟨"AND", 0o005000000000, 0o777700000000, none⟩,
  ⟨"IOR", 0o005100000000, 0o777700000000, none⟩,
  ⟨"XOR", 0o005200000000, 0o777700000000, none⟩,
  ⟨"SKE", 0o005400000000, 0o777700000000, none⟩,
  ⟨"SKN", 0o005500000000, 0o777700000000, none⟩,
  ⟨"SKL", 0o005600000000, 0o777700000000, none⟩,
  ⟨"SKG", 0o005700000000, 0o777700000000, none⟩,
  ⟨"SEN", 0o006000000000, 0o007777777777, none⟩,
  ⟨"SDS", 0o006100000000, 0o007777777777, none⟩,
  ⟨"SPR", 0o006200000000, 0o007700400000, none⟩,
  ⟨"SPC", 0o006300000000, 0o007700000000, none⟩,
  ⟨"RSS", 0o006400000000, 0o007777777777, none⟩,
  ⟨"RAS", 0o006500000000, 0o007777777777, some 2⟩,
  ⟨"RDT", 0o007000000000, 0o777700000000, none⟩]

/-- The machine-readable opcode table of R147: 64 rows, each with the match, the mask and, for RAS alone, the bound on C. -/
def opcodeTable : List OpcodeRow := opcodeRows1 ++ opcodeRows2 ++ opcodeRows3 ++ opcodeRows4

/-- R147: a word encodes a row's instruction if and only if `u(w) & mask = match` and the row's constraint, if it has one, holds. -/
def OpcodeRow.encodes (r : OpcodeRow) (w : Word) : Bool :=
  w &&& r.mask == r.pattern &&
    match r.maxC with
    | none => true
    | some k => (fieldC w).toNat ≤ k

end Sys2Proof
end

