-- ==== Sys2Proof/Machine/Boot.lean ====
section
/-! DEFINITION. The legal parameter sets (00_scope.md R11, R13), and boot from a tape image (70_reset_and_hazards.md R710 to R716). -/

namespace Sys2Proof

/-- The legal values of the parameters (R11): for any other set no run exists (R13). -/
def Params.legal (p : Params) : Bool :=
  1 ≤ p.memSize && p.memSize ≤ 2 ^ 17 && 1 ≤ p.nseq && p.nseq ≤ 64 && p.bootSeq.toNat < p.nseq &&
    p.handlerAddr.all (fun h => h.toNat < p.nseq) && p.handlerArith.all (fun h => h.toNat < p.nseq)

end Sys2Proof

namespace Sys2Proof.Machine

/-- What boot takes from an image that passes every check (R710). -/
structure BootPlan where
  base : Nat
  data : List Word
  entry : Nat
  tail : List Word
deriving DecidableEq, Repr

/-- Word i of the image. -/
def imageWord (image : List Word) (i : Nat) : Word := image.getD i 0

/-- Bits 35..17 of the header or the trailer, which must be 0 (R710). -/
def highBits (w : Word) : BitVec 19 := w.extractLsb' 17 19

/-- The halt record of a failed boot: seq = pc = word = 0 (R715, R621). -/
def bootFailure (reason : HaltReason) (info : Word) : HaltRecord :=
  { reason := reason, seq := 0, pc := 0, word := 0, info := info }

/-- The checks of R711 in their order, stopping at the first failure; then the parts of the image by R710's layout. -/
def bootCheck (p : Params) (image : List Word) : Except HaltRecord BootPlan :=
  if image.length < 3 then .error (bootFailure .bootImageInvalid 0)
  else if highBits (imageWord image 0) ≠ 0 then .error (bootFailure .bootImageInvalid (imageWord image 0))
  else if image.length < 3 + uval (imageWord image 1) then .error (bootFailure .bootImageInvalid (imageWord image 1))
  else if highBits (imageWord image (2 + uval (imageWord image 1))) ≠ 0 then
    .error (bootFailure .bootImageInvalid (imageWord image (2 + uval (imageWord image 1))))
  else if p.memSize < uval (imageWord image 0) + uval (imageWord image 1) then
    .error (bootFailure .addressFault (wrap36 ((uval (imageWord image 0) + uval (imageWord image 1) : Nat) : Int)))
  else if p.memSize ≤ uval (imageWord image (2 + uval (imageWord image 1))) then
    .error (bootFailure .addressFault (imageWord image (2 + uval (imageWord image 1))))
  else .ok {
    base := uval (imageWord image 0)
    data := (image.drop 2).take (uval (imageWord image 1))
    entry := uval (imageWord image (2 + uval (imageWord image 1)))
    tail := image.drop (3 + uval (imageWord image 1)) }

/-- A successful boot: the load, the tape, the boot sequence at the entry point and enabled, and mode Running (R712, R713, R714). -/
def booted (s : State) (b : BootPlan) : State :=
  { setSeq s s.params.bootSeq { seqAt s s.params.bootSeq with pc := BitVec.ofNat 18 b.entry, en := true } with
    mem := s.mem.load b.base b.data
    tapeIn := b.tail
    tc := 0
    mode := .running }

/-- The step from mode Booting (40_cycle.md R202): boot, or the halt of a boot that fails, which changes nothing else (R715). -/
def bootStep (s : State) : State :=
  match bootCheck s.params s.image with
  | .ok b => booted s b
  | .error r => halt s r

end Sys2Proof.Machine
end

