-- ==== Sys2Proof/Machine/Fetch.lean ====
section
/-! DEFINITION. The phases SELECT, FETCH and DECODE of a cycle (40_cycle.md R200, R210 to R218, R235), and placing a word where the next cycle
fetches it. -/

namespace Sys2Proof.Machine

/-- `S.cycles += 1`: counted in every step in which SELECT found a live sequence (R234). -/
def tick (s : State) : State := { s with cycles := s.cycles + 1 }

/-- SELECT, FETCH and DECODE (R235): the halt of R211, the fetch's AddressFault (R216), the halt of an illegal word (R218), or the decoded
instruction to be executed. -/
def beginCycle (s : State) : CycleStart :=
  match select s with
  | none => .ended (haltNoRunnable s)
  | some cur =>
    if (seqAt s cur).pc.toNat < s.params.memSize then
      match decode (fetchedWord s cur) with
      | .error _ => .ended (alarm (tick s) .illegalInstruction cur (seqAt s cur).pc (fetchedWord s cur) 0)
      | .ok i => .run i (tick s)
    else .ended (alarm (tick s) .addressFault cur (seqAt s cur).pc 0 (wrap36 ((seqAt s cur).pc.toNat : Int)))

/-- The sequence whose instruction the next cycle fetches: the live one, else the boot sequence. -/
def nextFetcher (s : State) : SeqId := (select s).getD s.params.bootSeq

/-- Where the word is placed: the pc of that sequence, or 0 where it lies outside memory. -/
def placeAt (s : State) : Pc :=
  if (seqAt s (nextFetcher s)).pc.toNat < s.params.memSize then (seqAt s (nextFetcher s)).pc else 0

/-- The state with `w` as the word that the next cycle fetches, in mode Running with that sequence enabled (log entry 2). -/
def placeWord (s : State) (w : Word) : State :=
  { setSeq s (nextFetcher s) { seqAt s (nextFetcher s) with pc := placeAt s, en := true } with
    mem := s.mem.write (placeAt s).toNat w
    mode := .running }

end Sys2Proof.Machine
end

