-- ==== Sys2Proof/Machine/Step.lean ====
section
/-! DEFINITION. One step of the dispatch state machine (40_cycle.md R200 to R205, R235). -/

namespace Sys2Proof.Machine

/-- One step: boot (R202), or one cycle (R235). There is none from Halted (R205; log entry 8), and none under an illegal parameter set
(00_scope.md R13; log entry 9). -/
def step (s : State) : Host.Outcome State Fault Refusal :=
  if s.params.legal then
    match s.mode with
    | .booting => .next (bootStep s)
    | .halted r => .fault (.halted r)
    | .running =>
      match beginCycle s with
      | .ended s' => .next s'
      | .run i s' => exec i s'
  else .refused .illegalParameters

/-- `s` with the instruction word `w` where the next step fetches (log entry 2). -/
def State.withFetchWord (s : State) (_nbits w : Nat) : State := placeWord s (BitVec.ofNat 36 w)

end Sys2Proof.Machine
end

