-- ==== Sys2Proof/Machine/Assembler.lean ====
section
/-! DEFINITION. The typed core of the assembler (30_encoding.md R173, R174) and the layout of a tape image (70_reset_and_hazards.md R710, R716).
The text syntax (R170 to R172) is outside the machine (00_scope.md R7; log entry 16). -/

namespace Sys2Proof.Machine

/-- What a source line emits (R170, R173): an instruction, or `WORD v`. -/
inductive SourceWord where
  | instr (i : Instr)
  | word (v : Int)
deriving DecidableEq, Repr

/-- The word of a source line; an operand that does not fit is an assembly error, never a truncated encoding (R172, R173). -/
def assembleWord : SourceWord → Option Word
  | .instr i => encodeChecked i
  | .word v => if -(2 ^ 35) ≤ v ∧ v < 2 ^ 36 then some (wrap36 v) else none

/-- The words of a program, or the error. -/
def assembleWords : List SourceWord → Option (List Word)
  | [] => some []
  | l :: ls =>
    match assembleWord l, assembleWords ls with
    | some w, some ws => some (w :: ws)
    | _, _ => none

/-- The tape image of R710: header, count, data, trailer, tail. -/
def tapeImage (base : AddrField) (data : List Word) (entry : AddrField) (tail : List Word) : List Word :=
  [base.setWidth 36, BitVec.ofNat 36 data.length] ++ data ++ [entry.setWidth 36] ++ tail

/-- The image of a program with `ORG base` and `ENTRY entry` (R173, R716). -/
def assemble (base entry : AddrField) (src : List SourceWord) (tail : List Word) : Option (List Word) :=
  match assembleWords src with
  | some ws => some (tapeImage base ws entry tail)
  | none => none

/-- `RET j` is `JMP 0(j)` (R174, R348). -/
def pseudoRet (j : IndexId) : Instr := .jmp j false 0
/-- `CALL j, a` is `JSX j, a` (R174). -/
def pseudoCall (j : IndexId) (a : AddrField) : Instr := .jsx j false a
/-- `INX j` is `ADX j, 1` (R174). -/
def pseudoInx (j : IndexId) : Instr := .adx j 1
/-- `DEX j` is `ADX j, -1`, whose Y is -1 mod 2^17 (R172, R174). -/
def pseudoDex (j : IndexId) : Instr := .adx j (BitVec.ofInt 17 (-1))
/-- `SKIP` at address a is `JMP a+2`, an error where a + 2 does not fit the address field (R172, R174). -/
def pseudoSkip (a : Nat) : Option Instr := if a + 2 < 2 ^ 17 then some (.jmp 0 false (BitVec.ofNat 17 (a + 2))) else none
/-- `STOP` is `HLT` (R174). -/
def pseudoStop : Instr := .hlt

end Sys2Proof.Machine
end

