-- ==== Sys2Proof/Machine/Diagnostic.lean ====
section
/-! DEFINITION. The host's read-only views: the diagnostic event of a step (10_state.md R82; 40_cycle.md R238), the snapshot of the inspection
interface (R80), and `run` bounded by a number of steps (R76, R77). None of them changes the state. -/

namespace Sys2Proof.Machine

/-- The effect set of an instruction in a state, for sequence cur live (40_cycle.md R224). -/
def effectsOf (i : Instr) (s : State) (cur : SeqId) : Action :=
  match i with
  | .nop => effNop s cur
  | .cla => effCla s cur
  | .com => effCom s cur
  | .neg => effNeg s cur
  | .xab => effXab s cur
  | .tab => effTab s cur
  | .tba => effTba s cur
  | .clc => effClc s cur
  | .sec => effSec s cur
  | .clo => effClo s cur
  | .rsi => effRsi s cur
  | .dis => effDis s cur
  | .ack => effAck s cur
  | .pch => effPch s cur
  | .hlt => effHlt s cur
  | .shl n => effShl n s cur
  | .shr n => effShr n s cur
  | .sar n => effSar n s cur
  | .rol n => effRol n s cur
  | .ror n => effRor n s cur
  | .lda j d y => effLda j d y s cur
  | .ldb j d y => effLdb j d y s cur
  | .sta j d y => effSta j d y s cur
  | .stb j d y => effStb j d y s cur
  | .stz j d y => effStz j d y s cur
  | .lia j y => effLia j y s cur
  | .lib j y => effLib j y s cur
  | .ldx j d y => effLdx j d y s cur
  | .stx j d y => effStx j d y s cur
  | .lix j y => effLix j y s cur
  | .adx j y => effAdx j y s cur
  | .txa j => effTxa j s cur
  | .tax j => effTax j s cur
  | .djp j d y => effDjp j d y s cur
  | .jmp j d y => effJmp j d y s cur
  | .jaz j d y => effJaz j d y s cur
  | .jnz j d y => effJnz j d y s cur
  | .jan j d y => effJan j d y s cur
  | .jap j d y => effJap j d y s cur
  | .jov j d y => effJov j d y s cur
  | .jcy j d y => effJcy j d y s cur
  | .jsx j d y => effJsx j d y s cur
  | .add j d y => effAdd j d y s cur
  | .sub j d y => effSub j d y s cur
  | .adc j d y => effAdc j d y s cur
  | .sbc j d y => effSbc j d y s cur
  | .adv j d y => effAdv j d y s cur
  | .sbv j d y => effSbv j d y s cur
  | .mul j d y => effMul j d y s cur
  | .div j d y => effDiv j d y s cur
  | .and j d y => effAnd j d y s cur
  | .ior j d y => effIor j d y s cur
  | .xor j d y => effXor j d y s cur
  | .ske j d y => effSke j d y s cur
  | .skn j d y => effSkn j d y s cur
  | .skl j d y => effSkl j d y s cur
  | .skg j d y => effSkg j d y s cur
  | .sen n => effSen n s cur
  | .sds n => effSds n s cur
  | .spr n j y => effSpr n j y s cur
  | .spc n j d y => effSpc n j d y s cur
  | .rss n => effRss n s cur
  | .ras k => effRas k s cur
  | .rdt j d y => effRdt j d y s cur

/-- One state change of a cycle: its component, the old value and the new value (R82). -/
inductive Change where
  | a (old new : Word)
  | b (old new : Word)
  | x (j : IndexId) (old new : IndexWord)
  | seqPc (n : SeqId) (old new : Pc)
  | seqEn (n : SeqId) (old new : Bool)
  | seqPrio (n : SeqId) (old new : Rank)
  | seqOv (n : SeqId) (old new : Bool)
  | seqCy (n : SeqId) (old new : Bool)
  | asr (old new : Asr)
  | asrValid (old new : Bool)
  | mem (addr : Nat) (old new : Word)
  | tapeCursor (old new : Nat)
  | punch (old new : List Word)
deriving DecidableEq, Repr

/-- The change a write makes to a state; a discarded write to X[0] makes none (R46). -/
def changeOf (s : State) : Write → Option Change
  | .a v => some (.a s.a v)
  | .b v => some (.b s.b v)
  | .x j v => if j = 0#6 then none else some (.x j (readX s j) v)
  | .seqPc n v => some (.seqPc n (seqAt s n).pc v)
  | .seqEn n v => some (.seqEn n (seqAt s n).en v)
  | .seqPrio n v => some (.seqPrio n (seqAt s n).prio v)
  | .seqOv n v => some (.seqOv n (seqAt s n).ov v)
  | .seqCy n v => some (.seqCy n (seqAt s n).cy v)
  | .asr v => some (.asr s.asr v)
  | .asrValid v => some (.asrValid s.asr.valid v)
  | .mem addr v => some (.mem addr (s.mem.read addr) v)
  | .tapeCursor v => some (.tapeCursor s.tc v)
  | .punch v => some (.punch s.punch (s.punch ++ [v]))

/-- The writes of an alarm of the live sequence: those of the switch where it is caught, none where it is fatal (60_exceptions.md R610). -/
def alarmWritesOf (s : State) (k : AlarmKind) (cur : SeqId) (info : Word) : List Write :=
  match catcher s k cur with
  | some h => alarmWrites k cur h (seqAt s cur).pc (fetchedWord s cur) info
  | none => []

/-- The writes that a cycle of the live sequence applies: those of the commit, or of the alarm switch (R238). R82 gives them no order and R230
applies them at once: that they stand in the order of the effect set, with the pc of the live sequence last, is a DESIGN CHOICE (log entry 22). -/
def cycleWrites (s : State) (cur : SeqId) : List Write :=
  if (seqAt s cur).pc.toNat < s.params.memSize then
    match decode (fetchedWord s cur) with
    | .error _ => []
    | .ok i =>
      match effectsOf i s cur with
      | .ok e => commitWrites s cur e
      | .error (.raise k info) => alarmWritesOf s k cur info
      | .error .halt => []
  else alarmWritesOf s .addressFault cur (wrap36 ((seqAt s cur).pc.toNat : Int))

/-- The diagnostic event of a completed cycle, as R82 lists it. -/
structure CycleEvent where
  /-- the value of `cycles` before the increment -/
  number : Nat
  /-- the live sequence -/
  seq : SeqId
  pc : Pc
  /-- the fetched word, 0 if the fetch faulted -/
  word : Word
  /-- the decoded instruction; none stands for `illegal` -/
  decoded : Option Instr
  /-- the state changes; their order is the model's choice (log entry 22) -/
  changes : List Change
deriving DecidableEq, Repr

/-- A diagnostic event: one for each cycle that completes, one with the halt record for each halt (R82, R238). -/
inductive Event where
  | cycle (e : CycleEvent)
  | halt (r : HaltRecord)
deriving DecidableEq, Repr

/-- The instruction a word decodes to, if it is legal. -/
def decoded? (w : Word) : Option Instr :=
  match decode w with
  | .ok i => some i
  | .error _ => none

/-- The event of a cycle of sequence cur (R82). The order of its change list is that of `cycleWrites`: a DESIGN CHOICE (log entry 22). -/
def cycleEvent (s : State) (cur : SeqId) : CycleEvent where
  number := s.cycles
  seq := cur
  pc := (seqAt s cur).pc
  word := fetchedWord s cur
  decoded := decoded? (fetchedWord s cur)
  changes := (cycleWrites s cur).filterMap (changeOf s)

/-- The diagnostic event that the step from a state emits (R82, R238; log entry 11). A successful boot is no cycle and emits none. -/
def diagnosticEvent (s : State) : Option Event :=
  match step s with
  | .next s' =>
    match s'.mode with
    | .halted r => some (.halt r)
    | _ =>
      match s.mode with
      | .running => (select s).map fun cur => .cycle (cycleEvent s cur)
      | _ => none
  | _ => none

/-- A snapshot: every component of R40 and the cycle counter (R80). -/
structure Snapshot where
  a : Word
  b : Word
  x : List IndexWord
  seq : List SeqRec
  asr : Asr
  mode : Mode
  mem : Memory
  tapeIn : List Word
  tc : Nat
  punch : List Word
  cycles : Nat
deriving DecidableEq, Repr

/-- The snapshot of a state between cycles (R80): X as it reads, and the NSEQ sequence records. -/
def snapshot (s : State) : Snapshot where
  a := s.a
  b := s.b
  x := (List.range 64).map fun j => readX s (BitVec.ofNat 6 j)
  seq := s.seq.toList.take s.params.nseq
  asr := s.asr
  mode := s.mode
  mem := s.mem
  tapeIn := s.tapeIn
  tc := s.tc
  punch := s.punch
  cycles := s.cycles

/-- At most k steps until the mode is Halted(r): the record r, or none if it has not halted by then (R76, R77, R237). -/
def runFor : Nat → State → Option HaltRecord
  | k, s =>
    match s.mode with
    | .halted r => some r
    | _ =>
      match k with
      | 0 => none
      | k + 1 =>
        match step s with
        | .next s' => runFor k s'
        | _ => none

/-- `run(image)` under given parameters, bounded by k steps (R76; log entry 21). -/
def runImage (p : Params) (image : List Word) (k : Nat) : Option HaltRecord := runFor k (State.initial p image)

end Sys2Proof.Machine
end

