-- ==== Sys2Proof/Safety.lean ====
section
/-! DEFINITION. What holds in every state of a run: the invariant of the machine, in the terms the statements use. -/

namespace Sys2Proof.Machine

/-- The rules of the spec about states, and the model's own representation invariants. A state that no run reaches may break it. -/
structure Inv (s : State) : Prop where
  /-- the parameters are a legal set (00_scope.md R13) -/
  legal : s.params.legal = true
  /-- memory has its canonical form (log entry 3) -/
  memWf : s.mem.wf = true
  /-- only addresses below MEM_SIZE hold a word (20_memory.md R100, R114) -/
  memBound : ∀ cell ∈ s.mem, cell.1 < s.params.memSize
  /-- nothing is ever stored in X[0] (10_state.md R46; log entry 5) -/
  xZero : s.x[0] = 0#18
  /-- a pc is at most MEM_SIZE + 1 (10_state.md R51) -/
  pcBound : ∀ n : SeqId, (seqAt s n).pc.toNat ≤ s.params.memSize + 1
  /-- a record at an id of NSEQ or more is not the machine's and keeps its reset value (10_state.md R50; log entry 4) -/
  absent : ∀ n : SeqId, s.params.nseq ≤ n.toNat → seqAt s n = SeqRec.reset
  /-- 0 ≤ tc ≤ len(T_in) (10_state.md R69) -/
  tape : s.tc ≤ s.tapeIn.length
  /-- only codes 2 and 3 can appear in ASR.kind (60_exceptions.md R609), and 0 before the first alarm (10_state.md R63) -/
  asrKind : s.asr.kind = 0 ∨ s.asr.kind = 2 ∨ s.asr.kind = 3
  /-- a recorded alarm has a kind -/
  asrRaised : s.asr.valid = true → s.asr.kind ≠ 0
  /-- ASR.seq names a sequence (10_state.md R63) -/
  asrSeq : s.asr.seq.toNat < s.params.nseq
  /-- ASR.pc is a pc -/
  asrPc : s.asr.pc.toNat ≤ s.params.memSize + 1
  /-- while the mode is Booting the state is the reset state of the run (70_reset_and_hazards.md R700, R701) -/
  booting : s.mode = .booting → s = State.initial s.params s.image

/-- A cycle can run: a legal parameter set, mode Running, and `cur` the live sequence (40_cycle.md R200). -/
structure Live (s : State) (cur : SeqId) : Prop where
  legal : s.params.legal = true
  running : s.mode = .running
  live : select s = some cur

/-- `advance(cur)` (10_state.md R53): the state with the pc of sequence cur one higher. -/
def advance (s : State) (cur : SeqId) : State := setSeq s cur { seqAt s cur with pc := (seqAt s cur).pc + 1 }

/-- `jump(cur, t)` (10_state.md R53): the state with the pc of sequence cur at t. -/
def jump (s : State) (cur : SeqId) (t : Pc) : State := setSeq s cur { seqAt s cur with pc := t }

/-- The state after the live sequence raises an alarm while it executes the word at its pc (60_exceptions.md R610). -/
def raised (s : State) (cur : SeqId) (k : AlarmKind) (info : Word) : State :=
  alarm s k cur (seqAt s cur).pc (fetchedWord s cur) info

/-- Whether a mathematical integer is an address of memory (20_memory.md R105). -/
abbrev IsAddress (s : State) (addr : Int) : Prop := 0 ≤ addr ∧ addr < s.params.memSize

/-- `t` is `s` after an alarm of kind `k`, caught by sequence `h` (60_exceptions.md R610, R611): the ASR, the live sequence disabled with its
pc kept, the handler enabled, and nothing else. -/
def SwitchedTo (s : State) (cur h : SeqId) (k : AlarmKind) (p : Pc) (w info : Word) (t : State) : Prop :=
  t = { setSeq (setSeq s cur { seqAt s cur with en := false }) h { seqAt s h with en := true } with
        asr := { valid := true, kind := k.code, seq := cur, pc := p, word := w, info := info } }

end Sys2Proof.Machine
end

