-- ==== Sys2Proof/Certificates/Slice0/Obligations.lean ====
section
/-! DEFINITION. The statements for the provers. First the shapes that several of them share; each shape says when the instruction completes,
what the whole next state is (so that it states the frame), and where the form takes an alarm instead. -/

namespace Sys2Proof.Claims
open Sys2Proof.Machine

/-- An address form: EA0 and EA from the operand fields (40_cycle.md R220). -/
structure AddressForm where
  ea0 : State → IndexId → AddrField → Int
  ea : State → IndexId → Bool → AddrField → Except Abort Int

/-- Classes M, T and QT: the J field indexes. -/
def byIndex : AddressForm := ⟨indexed, eaIndexed⟩

/-- Class XM: the J field names the operand register. -/
def byAddress : AddressForm := ⟨fun _ _ y => (y.toNat : Int), fun s _ d y => eaPlain s d y⟩

/-- An instruction with a memory operand at EA: its word; AddressFault(EA0) where the indirect word is out of range; AddressFault(EA) where the
operand is; else a next state that `post` describes, from the state, the live sequence, J, EA and the word at EA. -/
def MemoryLaw (form : AddressForm) (op : Opcode) (mk : IndexId → Bool → AddrField → Instr)
    (post : State → SeqId → IndexId → Int → Word → State → Prop) : Prop :=
  ∀ (j : IndexId) (d : Bool) (y : AddrField), encode (mk j d y) = pack 0 op j d y ∧
    ∀ (s : State) (cur : SeqId), select s = some cur →
      (d = true → ¬ IsAddress s (form.ea0 s j y) →
        exec (mk j d y) s = .next (raised s cur .addressFault (wrap36 (form.ea0 s j y)))) ∧
      (∀ ea, form.ea s j d y = .ok ea → ¬ IsAddress s ea → exec (mk j d y) s = .next (raised s cur .addressFault (wrap36 ea))) ∧
      (∀ ea, form.ea s j d y = .ok ea → IsAddress s ea →
        ∃ t, exec (mk j d y) s = .next t ∧ post s cur j ea (s.mem.read ea.toNat) t)

/-- A transfer to EA: its word; AddressFault(EA0) where the indirect word is out of range, taken or not; where it is taken, AddressFault(EA) for a
target out of range, else a next state that `post` describes from the new pc; where it is not taken, the state `idle`, whatever EA is. -/
def TransferLaw (form : AddressForm) (op : Opcode) (mk : IndexId → Bool → AddrField → Instr)
    (taken : State → SeqId → IndexId → Prop) (post : State → SeqId → IndexId → Pc → State → Prop)
    (idle : State → SeqId → State) : Prop :=
  ∀ (j : IndexId) (d : Bool) (y : AddrField), encode (mk j d y) = pack 0 op j d y ∧
    ∀ (s : State) (cur : SeqId), select s = some cur →
      (d = true → ¬ IsAddress s (form.ea0 s j y) →
        exec (mk j d y) s = .next (raised s cur .addressFault (wrap36 (form.ea0 s j y)))) ∧
      (∀ ea, form.ea s j d y = .ok ea → taken s cur j → ¬ IsAddress s ea →
        exec (mk j d y) s = .next (raised s cur .addressFault (wrap36 ea))) ∧
      (∀ ea, form.ea s j d y = .ok ea → taken s cur j → IsAddress s ea →
        ∃ t, exec (mk j d y) s = .next t ∧ post s cur j (BitVec.ofInt 18 ea) t) ∧
      (∀ ea, form.ea s j d y = .ok ea → ¬ taken s cur j → exec (mk j d y) s = .next (idle s cur))

/-- An instruction whose word is fixed and that always completes, in the state `result`. -/
def OperateLaw (w : Word) (i : Instr) (result : State → SeqId → State) : Prop :=
  decode w = .ok i ∧ encode i = w ∧ ∀ (s : State) (cur : SeqId), select s = some cur → exec i s = .next (result s cur)

/-- The state after an addition or subtraction that wraps: A, the carry, the sticky overflow and the pc, nothing else. -/
def sumState (s : State) (cur : SeqId) (a : Word) (c v : Prop) [Decidable c] [Decidable v] : State :=
  { setSeq s cur { seqAt s cur with pc := (seqAt s cur).pc + 1, cy := decide c, ov := (seqAt s cur).ov || decide v } with a := a }

/-- The numeric codes of R600: those of the halt reasons (10_state.md R68), those of ASR.kind (R609, 10_state.md R63), and the halt reason of each
alarm kind (R610). -/
def AlarmCodes : Prop :=
  (HaltReason.code .illegalInstruction = 1 ∧ HaltReason.code .addressFault = 2 ∧ HaltReason.code .arithmeticFault = 3 ∧
    HaltReason.code .explicitHalt = 4 ∧ HaltReason.code .noRunnableSequence = 5 ∧ HaltReason.code .bootImageInvalid = 6) ∧
  (AlarmKind.code .illegalInstruction = 1 ∧ AlarmKind.code .addressFault = 2 ∧ AlarmKind.code .arithmeticFault = 3) ∧
  (AlarmKind.reason .illegalInstruction = .illegalInstruction ∧ AlarmKind.reason .addressFault = .addressFault ∧
    AlarmKind.reason .arithmeticFault = .arithmeticFault)

/-- `t` is the state that a successful boot of a run leaves (70_reset_and_hazards.md R712 to R714): the reset state with the mode Running, the
boot sequence enabled at `entry` and `tail` as the tape at cursor 0, but for its memory, which is canonical and reads `word`. The clauses after
the equation name what it keeps of the reset state (R701), and that the boot sequence is the one that runs. -/
def BootedAt (p : Params) (image : List Word) (entry : Nat) (tail : List Word) (word : Nat → Word) (t : State) : Prop :=
  t = { setSeq (State.initial p image) p.bootSeq { pc := BitVec.ofNat 18 entry, en := true, prio := 0, ov := false, cy := false } with
        mem := t.mem, tapeIn := tail, tc := 0, mode := .running } ∧
  t.mem.wf = true ∧ (∀ addr, t.mem.read addr = word addr) ∧
  seqAt t p.bootSeq = { pc := BitVec.ofNat 18 entry, en := true, prio := 0, ov := false, cy := false } ∧
  (∀ n, n ≠ p.bootSeq → seqAt t n = { pc := 0, en := false, prio := 0, ov := false, cy := false }) ∧ select t = some p.bootSeq ∧
  t.mode = .running ∧ t.a = 0 ∧ t.b = 0 ∧ (∀ j, readX t j = 0) ∧
  t.asr = { valid := false, kind := 0, seq := 0, pc := 0, word := 0, info := 0 } ∧
  t.tapeIn = tail ∧ t.tc = 0 ∧ t.punch = [] ∧ t.cycles = 0 ∧ t.params = p ∧ t.image = image

/-- The exact result lies outside the signed range: the outcome v (44_arith.md R390). -/
abbrev Overflows (r : Int) : Prop := r < -(2 ^ 35) ∨ 2 ^ 35 ≤ r

end Sys2Proof.Claims

open Sys2Proof Sys2Proof.Machine Sys2Proof.Claims

/-! ### Encoding (30_encoding.md) -/

/-- R152: decode and encode are inverse on the legal words and the well-formed instructions, encode refuses every other instruction, and a call
of encode on field values is answered exactly for the fields of a legal word, with that word. -/
def Obligations.DecodeInvertsEncode : Prop :=
  (∀ i : Instr, i.wellFormed = true → decode (encode i) = .ok i) ∧
  (∀ (w : Word) (i : Instr), decode w = .ok i → i.wellFormed = true ∧ encode i = w) ∧
  (∀ i : Instr, i.wellFormed = false → encodeChecked i = none) ∧
  (∀ (f : Fields) (w : Word), encodeFields f = some w ↔ (∃ i, decode w = .ok i) ∧ fieldsOf w = f)

/-- R147: the table has 64 rows, a word encodes a row exactly when it decodes to that row's instruction, no word encodes two rows, a word that
encodes none is illegal, and RAS alone has a constraint, C ≤ 2. -/
def Obligations.TableRowsAreTheLegalWords : Prop :=
  opcodeTable.length = 64 ∧
  (∀ r ∈ opcodeTable, r.maxC = if r.mnemonic = "RAS" then some 2 else none) ∧
  (∀ (w : Word) (r : OpcodeRow), r ∈ opcodeTable →
    (r.encodes w = true ↔ ∃ i, decode w = .ok i ∧ mnemonic i = r.mnemonic)) ∧
  (∀ (w : Word) (r r' : OpcodeRow), r ∈ opcodeTable → r' ∈ opcodeTable → r.encodes w = true → r'.encodes w = true → r = r') ∧
  (∀ w : Word, (∀ r ∈ opcodeTable, r.encodes w = false) ↔ ∃ e, decode w = .error e)

/-- The fourteen reserved opcodes of R145. -/
def Sys2Proof.Claims.reservedOpcodes : List Opcode :=
  [0o00, 0o07, 0o17, 0o27, 0o53, 0o66, 0o67, 0o71, 0o72, 0o73, 0o74, 0o75, 0o76, 0o77]

/-- R148 and R601: the four cases of an illegal word, and its execution, which is always fatal. -/
def Obligations.IllegalWordsHaltTheRun : Prop :=
  (∀ w : Word, (∃ e, decode w = .error e) ↔
    fieldOp w ∈ reservedOpcodes ∨ (fieldOp w = 0o01 ∧ 0o17 ≤ (fieldC w).toNat) ∨ (fieldOp w = 0o65 ∧ 3 ≤ (fieldC w).toNat) ∨
    ∃ cls, opcodeClass (fieldOp w) = some cls ∧ mbzZero cls (fieldC w) (fieldJ w) (fieldD w) (fieldY w) = false) ∧
  (∀ (s : State) (cur : SeqId), Live s cur → (seqAt s cur).pc.toNat < s.params.memSize →
    (∃ e, decode (s.mem.read (seqAt s cur).pc.toNat) = .error e) →
    step s = .next { s with
      cycles := s.cycles + 1
      mode := .halted ⟨.illegalInstruction, cur, (seqAt s cur).pc, s.mem.read (seqAt s cur).pc.toNat, 0⟩ })

/-- R150: the all-zero word is illegal, and a sequence that runs into memory nothing loaded halts. -/
def Obligations.ZeroWordIsIllegal : Prop :=
  decode 0 = .error .reservedOpcode ∧
  ∀ (s : State) (cur : SeqId), Live s cur → (seqAt s cur).pc.toNat < s.params.memSize → s.mem.read (seqAt s cur).pc.toNat = 0 →
    ∃ t, step s = .next t ∧ t.mode = .halted ⟨.illegalInstruction, cur, (seqAt s cur).pc, 0, 0⟩

/-- Words written out from the opcode map, one for each class, decode to the instruction they stand for. -/
def Obligations.SampleWordsDecode : Prop :=
  decode 0o001003400144 = .ok (.lda 3 true 100) ∧ decode 0o001505000012 = .ok (.lia 5 10) ∧
  decode 0o003600000764 = .ok (.jcy 0 false 500) ∧ decode 0o002603000062 = .ok (.djp 3 false 50) ∧
  decode 0o002303377777 = .ok (.adx 3 131071) ∧ decode 0o002503000000 = .ok (.tax 3) ∧
  decode 0o430400000000 = .ok (.sar 35) ∧ decode 0o160100000000 = .ok .hlt ∧ decode 0o056400000000 = .ok (.rss 5) ∧
  decode 0o776277377777 = .ok (.spr 63 63 131071) ∧ decode 0o776377777777 = .ok (.spc 63 63 true 131071) ∧
  decode 0o026500000000 = .ok (.ras 2)

/-! ### The cycle (40_cycle.md) -/

/-- The three parts of R235 before EXECUTE: a step runs the decoded instruction in the state with the cycle counted; `exec` then does the rest. -/
def Obligations.StepRunsTheDecodedInstruction : Prop :=
  ∀ (s : State) (cur : SeqId) (i : Instr), Live s cur → (seqAt s cur).pc.toNat < s.params.memSize →
    decode (s.mem.read (seqAt s cur).pc.toNat) = .ok i → step s = exec i { s with cycles := s.cycles + 1 }

/-- R210: the scheduler's choice. -/
def Obligations.SchedulerPicksHighestRankThenLowestId : Prop :=
  ∀ s : State, s.params.nseq ≤ 64 →
    (select s = none ↔ ∀ n : SeqId, n.toNat < s.params.nseq → (seqAt s n).en = false) ∧
    (∀ n : SeqId, select s = some n ↔ n.toNat < s.params.nseq ∧ (seqAt s n).en = true ∧
      ∀ m : SeqId, m.toNat < s.params.nseq → (seqAt s m).en = true →
        (seqAt s m).prio < (seqAt s n).prio ∨ ((seqAt s m).prio = (seqAt s n).prio ∧ n.toNat ≤ m.toNat))

/-- R211 and R605: no enabled sequence. -/
def Obligations.NoRunnableSequenceHalts : Prop :=
  HaltReason.noRunnableSequence.code = 5 ∧
  ∀ s : State, s.params.legal = true → s.mode = .running → select s = none →
    step s = .next { s with mode := .halted ⟨.noRunnableSequence, 0, 0, 0, 0⟩ }

/-- R216: the fetch faults at and above MEM_SIZE with word 0, and otherwise reads MEM[p]. -/
def Obligations.FetchFaultsOutsideMemory : Prop :=
  ∀ (s : State) (cur : SeqId), Live s cur →
    (s.params.memSize ≤ (seqAt s cur).pc.toNat →
      step s = .next (alarm { s with cycles := s.cycles + 1 } .addressFault cur (seqAt s cur).pc 0 (wrap36 ((seqAt s cur).pc.toNat : Int)))) ∧
    ((seqAt s cur).pc.toNat < s.params.memSize → fetchedWord s cur = s.mem.read (seqAt s cur).pc.toNat)

/-- R205: Halted has no outgoing transition, and its record is what `run` answers. -/
def Obligations.HaltedIsTerminal : Prop :=
  ∀ (s : State) (r : HaltRecord), s.mode = .halted r → (∀ t, step s ≠ .next t) ∧ ∀ k, runFor k s = some r

/-- R13: no run exists for an illegal parameter set; the legal ones are R11's table. -/
def Obligations.IllegalParametersHaveNoRun : Prop :=
  (∀ p : Params, p.legal = true ↔
    (1 ≤ p.memSize ∧ p.memSize ≤ 131072) ∧ (1 ≤ p.nseq ∧ p.nseq ≤ 64) ∧ p.bootSeq.toNat < p.nseq ∧
    (∀ h, p.handlerAddr = some h → h.toNat < p.nseq) ∧ (∀ h, p.handlerArith = some h → h.toNat < p.nseq)) ∧
  (∀ s t : State, s.params.legal = false → step s ≠ .next t)

/-- R234: which steps count as cycles, that an image whose entry word is HLT halts after exactly one, and that no instruction reads the counter. -/
def Obligations.CyclesCountLiveSteps : Prop :=
  (∀ s t : State, step s = .next t → s.mode = .running → t.cycles = s.cycles + if (select s).isSome then 1 else 0) ∧
  (∀ s t : State, step s = .next t → s.mode = .booting → t.cycles = s.cycles) ∧
  (∀ (p : Params) (image : List Word) (s : State), step (State.initial p image) = .next s → s.mode = .running →
    s.mem.read (seqAt s p.bootSeq).pc.toNat = 0o160100000000 →
    ∃ t, step s = .next t ∧ t.cycles = 1 ∧
      t.mode = .halted ⟨.explicitHalt, p.bootSeq, (seqAt s p.bootSeq).pc, 0o160100000000, 0⟩) ∧
  (∀ (i : Instr) (s t : State) (c : Nat), exec i s = .next t → exec i { s with cycles := c } = .next { t with cycles := c })

/-- R238 with R82: the event of a committing cycle or of an alarm switch lists exactly the writes applied, and every halt emits its record. That a
fetch fault's event decodes as `illegal`, and that a discarded write to X[0] is no change, are the model's reading (log entry 11); the order in which
the changes are listed is the model's choice (log entry 22). -/
def Obligations.EventsListTheWritesApplied : Prop :=
  ∀ s t : State, step s = .next t →
    (∀ r, t.mode = .halted r → diagnosticEvent s = some (.halt r)) ∧
    (s.mode = .running → t.mode = .running →
      ∃ (cur : SeqId) (ws : List Write) (e : CycleEvent), select s = some cur ∧ diagnosticEvent s = some (.cycle e) ∧
        e.number = s.cycles ∧ e.seq = cur ∧ e.pc = (seqAt s cur).pc ∧ e.word = fetchedWord s cur ∧
        (∀ i, decode e.word = .ok i → e.decoded = some i) ∧ (∀ x, decode e.word = .error x → e.decoded = none) ∧
        e.changes = ws.filterMap (changeOf s) ∧ t = applyWrites { s with cycles := s.cycles + 1 } ws)

/-! ### Invariants and the whole machine -/

/-- Every step keeps the invariant of the machine. Its clauses on the form of memory, on the stored X[0] and on the records of ids of NSEQ or more
are the model's choices (log entries 3, 4 and 5). -/
def Obligations.StepKeepsTheInvariant : Prop :=
  ∀ s t : State, Inv s → step s = .next t → Inv t

/-- The reset state of every run with legal parameters meets the invariant, `State.reset` among them. Its clauses on the form of memory, on the
stored X[0] and on the records of ids of NSEQ or more are the model's choices (log entries 3, 4 and 5). -/
def Obligations.ResetMeetsTheInvariant : Prop :=
  (∀ (p : Params) (image : List Word), p.legal = true → Inv (State.initial p image)) ∧ Inv State.reset

/-- R701: every piece of state after reset. -/
def Obligations.ResetValues : Prop :=
  ∀ (p : Params) (image : List Word),
    (∀ addr, (State.initial p image).mem.read addr = 0) ∧ (State.initial p image).a = 0 ∧ (State.initial p image).b = 0 ∧
    (∀ j, readX (State.initial p image) j = 0) ∧
    (∀ n, seqAt (State.initial p image) n = { pc := 0, en := false, prio := 0, ov := false, cy := false }) ∧
    (State.initial p image).asr = { valid := false, kind := 0, seq := 0, pc := 0, word := 0, info := 0 } ∧
    (State.initial p image).tapeIn = [] ∧ (State.initial p image).tc = 0 ∧ (State.initial p image).punch = [] ∧
    (State.initial p image).cycles = 0 ∧ (State.initial p image).mode = .booting

/-- R215: a cycle changes a sequence that is not live only by an instruction that names it, or by the switch to it as the handler of an alarm. -/
def Obligations.SequencesNotLiveAreUnchanged : Prop :=
  ∀ (s t : State) (cur n : SeqId), s.mode = .running → select s = some cur → step s = .next t → n ≠ cur →
    (∀ i, decode (fetchedWord s cur) = .ok i → i ≠ .sen n ∧ i ≠ .sds n ∧ (∀ j y, i ≠ .spr n j y) ∧ ∀ j d y, i ≠ .spc n j d y) →
    seqAt t n = seqAt s n ∨
      (seqAt t n = { seqAt s n with en := true } ∧ s.asr.valid = false ∧ t.asr.valid = true ∧
        (s.params.handlerAddr = some n ∨ s.params.handlerArith = some n))

/-- The flags of a sequence change only in its own cycles (R60): in every step, whatever it does. -/
def Obligations.FlagsOfOtherSequencesAreKept : Prop :=
  ∀ (s t : State) (cur n : SeqId), s.mode = .running → select s = some cur → step s = .next t → n ≠ cur →
    (seqAt t n).ov = (seqAt s n).ov ∧ (seqAt t n).cy = (seqAt s n).cy

/-- Which instructions write memory: only STA, STB, STZ and STX can change what any address reads (R47 and the rules of the others). -/
def Obligations.OnlyStoresChangeMemory : Prop :=
  ∀ (i : Instr) (s t : State), exec i s = .next t →
    (∀ j d y, i ≠ .sta j d y) → (∀ j d y, i ≠ .stb j d y) → (∀ j d y, i ≠ .stz j d y) → (∀ j d y, i ≠ .stx j d y) →
    ∀ addr, t.mem.read addr = s.mem.read addr

/-- R65: only ACK and a caught alarm write the ASR, ACK only its valid bit, and every sequence may execute ACK and RAS. -/
def Obligations.AsrChangesOnlyByAckOrCaughtAlarm : Prop :=
  (∀ (i : Instr) (s t : State), exec i s = .next t → t.asr ≠ s.asr →
    (i = .ack ∧ t.asr = { s.asr with valid := false }) ∨
    ∃ (cur h : SeqId) (k : AlarmKind) (info : Word), select s = some cur ∧ s.asr.valid = false ∧ h ≠ cur ∧
      SwitchedTo s cur h k (seqAt s cur).pc (fetchedWord s cur) info t) ∧
  (∀ (s : State) (cur : SeqId), select s = some cur →
    exec .ack s = .next { advance s cur with asr := { s.asr with valid := false } } ∧
    ∀ k : Config6, k.toNat ≤ 2 → ∃ w : Word, exec (.ras k) s = .next { advance s cur with a := w })

/-- R69 and R70 over all instructions: only RDT moves the tape cursor, only PCH extends the punch stream, by A, and no instruction changes the
image, T_in or a parameter. -/
def Obligations.TapeAndPunchChangeOnlyByTheirInstructions : Prop :=
  ∀ (i : Instr) (s t : State), exec i s = .next t →
    t.image = s.image ∧ t.tapeIn = s.tapeIn ∧ t.params = s.params ∧
    (t.tc = s.tc ∨ (t.tc = s.tc + 1 ∧ s.tc < s.tapeIn.length ∧ ∃ j d y, i = .rdt j d y)) ∧
    (t.punch = s.punch ∨ (t.punch = s.punch ++ [s.a] ∧ i = .pch))

/-- R620: a halt, of a cycle or of boot, sets the mode and applies nothing else (the counter has counted the cycle, R234), and `run` answers its
record; a fault of boot halts whatever the handlers are. -/
def Obligations.HaltsApplyNothingElse : Prop :=
  (∀ (s t : State) (r : HaltRecord), step s = .next t → t.mode = .halted r →
    t = { s with mode := .halted r, cycles := t.cycles } ∧ ∀ k, runFor k t = some r) ∧
  (∀ (s t : State) (r : HaltRecord), s.mode = .booting → step s = .next t → bootCheck s.params s.image = .error r → t.mode = .halted r)

/-- R45 and R46: X[0] reads 0 and discards writes, the others read back what was written; so `JSX 0, t` is a plain jump and `ADX 0, k` a no-op. -/
def Obligations.IndexRegisterZero : Prop :=
  (∀ s, readX s 0 = 0) ∧
  (∀ (s : State) (v : IndexWord), writeX s 0 v = s) ∧
  (∀ (s : State) (j : IndexId) (v : IndexWord), j ≠ 0 →
    readX (writeX s j v) j = v ∧ ∀ k, k ≠ j → readX (writeX s j v) k = readX s k) ∧
  (∀ (s : State) (d : Bool) (y : AddrField), exec (.jsx 0 d y) s = exec (.jmp 0 d y) s) ∧
  (∀ (s : State) (y : AddrField), exec (.adx 0 y) s = exec .nop s)

/-! ### Boot (70_reset_and_hazards.md) -/

/-- The six checks of R711, each on an image that passes the ones before it, and the state R715 gives. -/
def Obligations.BootChecksInOrder : Prop :=
  ∀ (p : Params) (image : List Word), p.legal = true →
    let fails (reason : HaltReason) (info : Word) : Prop :=
      step (State.initial p image) = .next { State.initial p image with mode := .halted ⟨reason, 0, 0, 0, info⟩ }
    let header := image.getD 0 0
    let count := (image.getD 1 0).toNat
    let trailer := image.getD (2 + count) 0
    (image.length < 3 → fails .bootImageInvalid 0) ∧
    (3 ≤ image.length → 2 ^ 17 ≤ header.toNat → fails .bootImageInvalid header) ∧
    (3 ≤ image.length → header.toNat < 2 ^ 17 → image.length < 3 + count → fails .bootImageInvalid (image.getD 1 0)) ∧
    (header.toNat < 2 ^ 17 → 3 + count ≤ image.length → 2 ^ 17 ≤ trailer.toNat → fails .bootImageInvalid trailer) ∧
    (header.toNat < 2 ^ 17 → 3 + count ≤ image.length → trailer.toNat < 2 ^ 17 → p.memSize < header.toNat + count →
      fails .addressFault (BitVec.ofNat 36 (header.toNat + count))) ∧
    (header.toNat < 2 ^ 17 → 3 + count ≤ image.length → trailer.toNat < 2 ^ 17 → header.toNat + count ≤ p.memSize →
      p.memSize ≤ trailer.toNat → fails .addressFault trailer)

/-- R712, R713 and R714: the whole state that a successful boot leaves; no step leads back to Booting, changes the image, or moves T_in once it
is set. That memory is canonical is the model's own clause (log entry 3). -/
def Obligations.BootLoadsTheImage : Prop :=
  (∀ s t : State, step s = .next t → t.mode ≠ .booting ∧ t.image = s.image ∧ (s.mode = .running → t.tapeIn = s.tapeIn)) ∧
  ∀ (p : Params) (image : List Word), p.legal = true →
    let base := (image.getD 0 0).toNat
    let count := (image.getD 1 0).toNat
    let entry := (image.getD (2 + count) 0).toNat
    3 + count ≤ image.length → base + count ≤ p.memSize → entry < p.memSize → base < 2 ^ 17 →
    ∃ t, step (State.initial p image) = .next t ∧
      BootedAt p image entry (image.drop (3 + count))
        (fun addr => if base ≤ addr ∧ addr < base + count then image.getD (2 + (addr - base)) 0 else 0) t

/-- R716: assembling a program and booting its image, with any tail, gives the words at base, the entry, the tail as the tape, and reset values
everywhere else. The assembler is its typed core, without the text syntax: the model's choice (log entry 16), as is the form of memory (log
entry 3). -/
def Obligations.AssembledImageBoots : Prop :=
  ∀ (p : Params) (base entry : AddrField) (src : List SourceWord) (tail ws image : List Word), p.legal = true →
    assembleWords src = some ws → assemble base entry src tail = some image →
    base.toNat + ws.length ≤ p.memSize → entry.toNat < p.memSize →
    ∃ t, step (State.initial p image) = .next t ∧
      BootedAt p image entry.toNat tail
        (fun addr => if base.toNat ≤ addr ∧ addr < base.toNat + ws.length then ws.getD (addr - base.toNat) 0 else 0) t

/-! ### Alarms (60_exceptions.md) -/

/-- R610 with the codes of R68 and R609: a caught alarm is the switch and nothing else, with code 2 or 3 in ASR.kind; any other alarm is the halt
with its record. -/
def Obligations.AlarmSwitchesOrHalts : Prop :=
  AlarmCodes ∧ (∀ r : HaltReason, r.code ≠ 0) ∧
  ∀ (s : State) (k : AlarmKind) (cur : SeqId) (p : Pc) (w info : Word),
    (alarmHandler s .addressFault = s.params.handlerAddr ∧ alarmHandler s .arithmeticFault = s.params.handlerArith ∧
      alarmHandler s .illegalInstruction = none) ∧
    (∀ h, alarmHandler s k = some h → h ≠ cur → s.asr.valid = false →
      SwitchedTo s cur h k p w info (alarm s k cur p w info) ∧
        ((alarm s k cur p w info).asr.kind = 2 ∨ (alarm s k cur p w info).asr.kind = 3)) ∧
    ((∀ h, alarmHandler s k = some h → h = cur ∨ s.asr.valid = true) →
      alarm s k cur p w info = { s with mode := .halted ⟨k.reason, cur, p, w, info⟩ })

/-- R616 and R617: while ASR.valid = 1, or when the handler is the live sequence itself, the alarm is fatal; its record is the second alarm, whose
reason is the alarm's own (`AlarmCodes`), and the ASR keeps the first. -/
def Obligations.SecondAlarmAndOwnAlarmAreFatal : Prop :=
  AlarmCodes ∧
  ∀ (s : State) (k : AlarmKind) (cur : SeqId) (p : Pc) (w info : Word),
    (s.asr.valid = true ∨ alarmHandler s k = some cur) →
    (alarm s k cur p w info).mode = .halted ⟨k.reason, cur, p, w, info⟩ ∧ (alarm s k cur p w info).asr = s.asr

/-- R164 and R219: a sequence id of NSEQ or more raises AddressFault(n) before the effective address is computed; with NSEQ = 64 none does. -/
def Obligations.SequenceIdOutOfRangeFaults : Prop :=
  (∀ (s : State) (cur n : SeqId) (j : IndexId) (d : Bool) (y : AddrField), select s = some cur → s.params.nseq ≤ n.toNat →
    ∀ i ∈ [Instr.sen n, .sds n, .rss n, .spr n j y, .spc n j d y],
      exec i s = .next (raised s cur .addressFault (BitVec.ofNat 36 n.toNat))) ∧
  (∀ (s : State) (n : SeqId), s.params.nseq = 64 → checkSeq s n = .ok ())

/-! ### Operands -/

/-- R165 and R166: EA0 as a mathematical integer, then one level of indirection, whose word is not indexed again; out of range it faults. -/
def Obligations.EffectiveAddressRules : Prop :=
  ∀ (s : State) (j : IndexId) (y : AddrField),
    eaIndexed s j false y = .ok ((y.toNat : Int) + (readX s j).toInt) ∧ eaPlain s false y = .ok (y.toNat : Int) ∧
    (∀ ea0 : Int, (IsAddress s ea0 → resolve s true ea0 = .ok (((s.mem.read ea0.toNat).toNat % 2 ^ 17 : Nat) : Int)) ∧
      (¬ IsAddress s ea0 → resolve s true ea0 = .error (.raise .addressFault (BitVec.ofInt 36 ea0)))) ∧
    eaIndexed s j true y = resolve s true ((y.toNat : Int) + (readX s j).toInt) ∧ eaPlain s true y = resolve s true (y.toNat : Int) ∧
    -131072 ≤ indexed s j y ∧ indexed s j y ≤ 262142

/-- R390 and R391: the result word, the carry and the overflow of additions and subtractions. -/
def Obligations.AluConditionOutcomes : Prop :=
  ∀ (a m : Word) (k : Bool),
    (aluAdd a m k).result = BitVec.ofNat 36 (a.toNat + m.toNat + k.toNat) ∧
    (aluAdd a m k).result = BitVec.ofInt 36 (a.toInt + m.toInt + k.toNat) ∧
    ((aluAdd a m k).carry = true ↔ 2 ^ 36 ≤ a.toNat + m.toNat + k.toNat) ∧
    ((aluAdd a m k).overflow = true ↔ Overflows (a.toInt + m.toInt + k.toNat)) ∧
    (aluSub a m k).result = BitVec.ofNat 36 (a.toNat + (~~~m).toNat + k.toNat) ∧
    (aluSub a m k).result = BitVec.ofInt 36 (a.toInt - m.toInt - (1 - k.toNat)) ∧
    ((aluSub a m k).carry = true ↔ m.toNat + 1 ≤ a.toNat + k.toNat) ∧
    ((aluSub a m k).overflow = true ↔ Overflows (a.toInt - m.toInt - (1 - k.toNat)))

/-! ### Loads, stores, immediates (41_load_store.md) -/

/-- R260, R261: LDA and LDB. -/
def Obligations.LoadRules : Prop :=
  MemoryLaw byIndex 0o10 .lda (fun s cur _ _ m t => t = { advance s cur with a := m }) ∧
  MemoryLaw byIndex 0o11 .ldb (fun s cur _ _ m t => t = { advance s cur with b := m })

/-- R262, R263, R264: STA, STB and STZ: the word at EA and no other, where memory is canonical. -/
def Obligations.StoreRules : Prop :=
  ∀ q ∈ [((0o12 : Opcode), Instr.sta, fun s : State => s.a), (0o13, Instr.stb, fun s => s.b), (0o14, Instr.stz, fun _ => 0)],
    MemoryLaw byIndex q.1 q.2.1 (fun s cur _ ea _ t =>
      t = { advance s cur with mem := s.mem.write ea.toNat (q.2.2 s) } ∧
      (s.mem.wf = true → ∀ addr, t.mem.read addr = if addr = ea.toNat then q.2.2 s else s.mem.read addr))

/-- R265, R266: LIA and LIB; R160's immediate. -/
def Obligations.ImmediateLoadRules : Prop :=
  ∀ (j : IndexId) (y : AddrField),
    encode (.lia j y) = pack 0 0o15 j false y ∧ encode (.lib j y) = pack 0 0o16 j false y ∧
    (∃ e, decode (pack 0 0o15 j true y) = .error e) ∧ (∃ e, decode (pack 0 0o16 j true y) = .error e) ∧
    ∀ (s : State) (cur : SeqId), select s = some cur →
      exec (.lia j y) s = .next { advance s cur with a := BitVec.ofInt 36 ((y.toNat : Int) + (readX s j).toInt) } ∧
      exec (.lib j y) s = .next { advance s cur with b := BitVec.ofInt 36 ((y.toNat : Int) + (readX s j).toInt) }

/-! ### Index registers (42_index.md) -/

/-- R300, R301: LDX and STX. -/
def Obligations.IndexLoadStoreRules : Prop :=
  MemoryLaw byAddress 0o20 .ldx (fun s cur j _ m t => t = writeX (advance s cur) j (BitVec.ofNat 18 m.toNat)) ∧
  MemoryLaw byAddress 0o21 .stx (fun s cur j ea _ t =>
    t = { advance s cur with mem := s.mem.write ea.toNat ((readX s j).signExtend 36) } ∧
    (s.mem.wf = true → ∀ addr, t.mem.read addr = if addr = ea.toNat then (readX s j).signExtend 36 else s.mem.read addr))

/-- R302 to R305: LIX, ADX, TXA and TAX. -/
def Obligations.IndexRegisterRules : Prop :=
  ∀ (j : IndexId) (y : AddrField),
    encode (.lix j y) = pack 0 0o22 j false y ∧ encode (.adx j y) = pack 0 0o23 j false y ∧
    encode (.txa j) = pack 0 0o24 j false 0 ∧ encode (.tax j) = pack 0 0o25 j false 0 ∧
    ∀ (s : State) (cur : SeqId), select s = some cur →
      exec (.lix j y) s = .next (writeX (advance s cur) j (y.zeroExtend 18)) ∧
      exec (.adx j y) s = .next (writeX (advance s cur) j (readX s j + y.signExtend 18)) ∧
      exec (.txa j) s = .next { advance s cur with a := (readX s j).signExtend 36 } ∧
      exec (.tax j) s = .next (writeX (advance s cur) j (BitVec.ofNat 18 s.a.toNat))

/-- R306: DJP. -/
def Obligations.DecrementAndJumpRule : Prop :=
  TransferLaw byAddress 0o26 .djp (fun s _ j => 0 < (readX s j).toInt)
    (fun s cur j pc t => t = writeX (jump s cur pc) j (readX s j - 1)) advance

/-! ### Control transfer (43_control.md) -/

/-- R341 to R344 and JMP: the transfers on A. -/
def Obligations.JumpRules : Prop :=
  ∀ q ∈ [((0o30 : Opcode), Instr.jmp, fun _ : Word => True), (0o31, Instr.jaz, fun a => a = 0), (0o32, Instr.jnz, fun a => a ≠ 0),
      (0o33, Instr.jan, fun a => a.toInt < 0), (0o34, Instr.jap, fun a => 0 < a.toInt)],
    TransferLaw byIndex q.1 q.2.1 (fun s _ _ => q.2.2 s.a) (fun s cur _ pc t => t = jump s cur pc) advance

/-- R345 and JCY: the transfers on the live sequence's flags; JOV clears ov when it jumps, JCY keeps cy. -/
def Obligations.FlagJumpRules : Prop :=
  TransferLaw byIndex 0o35 .jov (fun s cur _ => (seqAt s cur).ov = true)
    (fun s cur _ pc t => t = setSeq s cur { seqAt s cur with pc := pc, ov := false }) advance ∧
  TransferLaw byIndex 0o36 .jcy (fun s cur _ => (seqAt s cur).cy = true) (fun s cur _ pc t => t = jump s cur pc) advance

/-- JSX (R347): the link in X[J], always taken. -/
def Obligations.SubroutineJumpRule : Prop :=
  TransferLaw byAddress 0o37 .jsx (fun _ _ _ => True)
    (fun s cur j pc t => t = writeX (jump s cur pc) j ((seqAt s cur).pc + 1)) advance

/-! ### Arithmetic (44_arith.md) -/

/-- R380 to R383: ADD, SUB, ADC and SBC wrap, write cy and set ov. -/
def Obligations.WrappingArithmeticRules : Prop :=
  MemoryLaw byIndex 0o40 .add (fun s cur _ _ m t =>
    t = sumState s cur (s.a + m) (2 ^ 36 ≤ s.a.toNat + m.toNat) (Overflows (s.a.toInt + m.toInt))) ∧
  MemoryLaw byIndex 0o41 .sub (fun s cur _ _ m t =>
    t = sumState s cur (s.a - m) (m.toNat ≤ s.a.toNat) (Overflows (s.a.toInt - m.toInt))) ∧
  MemoryLaw byIndex 0o42 .adc (fun s cur _ _ m t =>
    t = sumState s cur (s.a + m + BitVec.ofNat 36 (seqAt s cur).cy.toNat) (2 ^ 36 ≤ s.a.toNat + m.toNat + (seqAt s cur).cy.toNat)
      (Overflows (s.a.toInt + m.toInt + (seqAt s cur).cy.toNat))) ∧
  MemoryLaw byIndex 0o43 .sbc (fun s cur _ _ m t =>
    t = sumState s cur (s.a - m - BitVec.ofNat 36 (1 - (seqAt s cur).cy.toNat)) (m.toNat + 1 ≤ s.a.toNat + (seqAt s cur).cy.toNat)
      (Overflows (s.a.toInt - m.toInt - (1 - (seqAt s cur).cy.toNat))))

/-- R384, R385: ADV and SBV raise ArithmeticFault(EA) on overflow with nothing written, and otherwise complete without writing ov. -/
def Obligations.TrappingArithmeticRules : Prop :=
  MemoryLaw byIndex 0o44 .adv (fun s cur _ ea m t =>
    (Overflows (s.a.toInt + m.toInt) → t = raised s cur .arithmeticFault (wrap36 ea)) ∧
    (¬ Overflows (s.a.toInt + m.toInt) →
      t = { setSeq s cur { seqAt s cur with pc := (seqAt s cur).pc + 1, cy := decide (2 ^ 36 ≤ s.a.toNat + m.toNat) } with a := s.a + m })) ∧
  MemoryLaw byIndex 0o45 .sbv (fun s cur _ ea m t =>
    (Overflows (s.a.toInt - m.toInt) → t = raised s cur .arithmeticFault (wrap36 ea)) ∧
    (¬ Overflows (s.a.toInt - m.toInt) →
      t = { setSeq s cur { seqAt s cur with pc := (seqAt s cur).pc + 1, cy := decide (m.toNat ≤ s.a.toNat) } with a := s.a - m }))

/-- R386: MUL, whose 72-bit product is A (signed, high) and B (low). -/
def Obligations.MultiplyRule : Prop :=
  MemoryLaw byIndex 0o46 .mul (fun s cur _ _ m t =>
    ∃ high low : Word, t = { advance s cur with a := high, b := low } ∧
      high.toInt * 2 ^ 36 + low.toNat = s.a.toInt * m.toInt)

/-- R387: DIV truncates toward zero, the remainder has the sign of the dividend, and a zero divisor or -2^35 / -1 raises ArithmeticFault(EA). -/
def Obligations.DivideRule : Prop :=
  MemoryLaw byIndex 0o47 .div (fun s cur _ ea m t =>
    ((m.toInt = 0 ∨ (s.a.toInt = -(2 ^ 35) ∧ m.toInt = -1)) → t = raised s cur .arithmeticFault (wrap36 ea)) ∧
    (¬ (m.toInt = 0 ∨ (s.a.toInt = -(2 ^ 35) ∧ m.toInt = -1)) →
      ∃ quot rem : Word, t = { advance s cur with a := quot, b := rem } ∧
        s.a.toInt = quot.toInt * m.toInt + rem.toInt ∧ rem.toInt.natAbs < m.toInt.natAbs ∧
        (rem.toInt = 0 ∨ (rem.toInt < 0 ↔ s.a.toInt < 0))))

/-! ### Logic and shifts (45_logic_shift.md) -/

/-- R420 to R422: AND, IOR and XOR. -/
def Obligations.LogicRules : Prop :=
  MemoryLaw byIndex 0o50 .and (fun s cur _ _ m t => t = { advance s cur with a := s.a &&& m }) ∧
  MemoryLaw byIndex 0o51 .ior (fun s cur _ _ m t => t = { advance s cur with a := s.a ||| m }) ∧
  MemoryLaw byIndex 0o52 .xor (fun s cur _ _ m t => t = { advance s cur with a := s.a ^^^ m })

/-- R423 to R425: SHL, SHR and SAR for every count; only n ≥ 1 writes cy, the last bit shifted out. -/
def Obligations.ShiftRules : Prop :=
  ∀ n : Config6,
    encode (.shl n) = pack n 0o02 0 false 0 ∧ encode (.shr n) = pack n 0o03 0 false 0 ∧ encode (.sar n) = pack n 0o04 0 false 0 ∧
    ∀ (s : State) (cur : SeqId), select s = some cur →
      let after (a : Word) (c : Bool) : State :=
        { setSeq s cur { seqAt s cur with pc := (seqAt s cur).pc + 1, cy := if n = 0 then (seqAt s cur).cy else c } with a := a }
      exec (.shl n) s = .next (after (s.a <<< n.toNat) (if n.toNat ≤ 36 then s.a.getLsbD (36 - n.toNat) else false)) ∧
      exec (.shr n) s = .next (after (s.a >>> n.toNat) (if n.toNat ≤ 36 then s.a.getLsbD (n.toNat - 1) else false)) ∧
      exec (.sar n) s = .next (after (s.a.sshiftRight n.toNat) (if n.toNat ≤ 36 then s.a.getLsbD (n.toNat - 1) else s.a.msb))

/-- R426, R427: ROL and ROR rotate by n mod 36 and write no flag; `ROR n` is `ROL (36 - n mod 36) mod 36`. -/
def Obligations.RotateRules : Prop :=
  ∀ n : Config6,
    encode (.rol n) = pack n 0o05 0 false 0 ∧ encode (.ror n) = pack n 0o06 0 false 0 ∧
    ∀ (s : State) (cur : SeqId), select s = some cur →
      exec (.rol n) s = .next { advance s cur with a := s.a.rotateLeft n.toNat } ∧
      exec (.ror n) s = .next { advance s cur with a := s.a.rotateRight n.toNat } ∧
      exec (.ror n) s = exec (.rol (BitVec.ofNat 6 ((36 - n.toNat % 36) % 36))) s

/-! ### Compare and skip (46_compare_skip.md) -/

/-- R461 to R463 and SKE: the skip is p + 2, unchecked, and nothing else is written. -/
def Obligations.SkipRules : Prop :=
  ∀ q ∈ [((0o54 : Opcode), Instr.ske, fun a m : Word => a = m), (0o55, Instr.skn, fun a m => a ≠ m),
      (0o56, Instr.skl, fun a m => a.toInt < m.toInt), (0o57, Instr.skg, fun a m => m.toInt < a.toInt)],
    MemoryLaw byIndex q.1 q.2.1 (fun s cur _ _ m t =>
      (q.2.2 s.a m → t = jump s cur ((seqAt s cur).pc + 2)) ∧ (¬ q.2.2 s.a m → t = advance s cur))

/-! ### The operate group (47_operate.md) -/

/-- R481 to R487 and NOP, SEC, CLO: words and effects. -/
def Obligations.OperateRules : Prop :=
  OperateLaw 0o000100000000 .nop advance ∧
  OperateLaw 0o010100000000 .cla (fun s cur => { advance s cur with a := 0 }) ∧
  OperateLaw 0o020100000000 .com (fun s cur => { advance s cur with a := ~~~s.a }) ∧
  OperateLaw 0o030100000000 .neg (fun s cur => sumState s cur (-s.a) (s.a = 0) (s.a.toInt = -(2 ^ 35))) ∧
  OperateLaw 0o040100000000 .xab (fun s cur => { advance s cur with a := s.b, b := s.a }) ∧
  OperateLaw 0o050100000000 .tab (fun s cur => { advance s cur with b := s.a }) ∧
  OperateLaw 0o060100000000 .tba (fun s cur => { advance s cur with a := s.b }) ∧
  OperateLaw 0o070100000000 .clc (fun s cur => setSeq s cur { seqAt s cur with pc := (seqAt s cur).pc + 1, cy := false }) ∧
  OperateLaw 0o100100000000 .sec (fun s cur => setSeq s cur { seqAt s cur with pc := (seqAt s cur).pc + 1, cy := true }) ∧
  OperateLaw 0o110100000000 .clo (fun s cur => setSeq s cur { seqAt s cur with pc := (seqAt s cur).pc + 1, ov := false })

/-- R604 and HLT: the halt of the whole engine, with the pc where it is, under every parameter set. -/
def Obligations.ExplicitHaltRule : Prop :=
  HaltReason.explicitHalt.code = 4 ∧
  OperateLaw 0o160100000000 .hlt (fun s cur =>
    { s with mode := .halted ⟨.explicitHalt, cur, (seqAt s cur).pc, fetchedWord s cur, 0⟩ })

/-! ### Sequence control (48_sequence.md) -/

/-- SEN, SDS and SPR on an existing sequence n, which may be the live one: then the write merges with the pc's advance (40_cycle.md R233). -/
def Obligations.SequenceControlRules : Prop :=
  ∀ (n : SeqId) (j : IndexId) (y : AddrField),
    encode (.sen n) = pack n 0o60 0 false 0 ∧ encode (.sds n) = pack n 0o61 0 false 0 ∧ encode (.spr n j y) = pack n 0o62 j false y ∧
    ∀ (s : State) (cur : SeqId), select s = some cur → n.toNat < s.params.nseq →
      let after (r : SeqRec) : State :=
        if n = cur then setSeq s cur { r with pc := (seqAt s cur).pc + 1 } else setSeq (advance s cur) n r
      exec (.sen n) s = .next (after { seqAt s n with en := true }) ∧
      exec (.sds n) s = .next (after { seqAt s n with en := false }) ∧
      exec (.spr n j y) s = .next (after { seqAt s n with prio := BitVec.ofInt 8 ((y.toNat : Int) + (readX s j).toInt) })

/-- R527, R528 and DIS, with SDS of the live sequence equal to DIS (40_cycle.md R233). -/
def Obligations.LiveSequenceRules : Prop :=
  OperateLaw 0o130100000000 .dis (fun s cur => setSeq s cur { seqAt s cur with pc := (seqAt s cur).pc + 1, en := false }) ∧
  OperateLaw 0o120100000000 .rsi (fun s cur => { advance s cur with a := BitVec.ofNat 36 cur.toNat }) ∧
  OperateLaw 0o140100000000 .ack (fun s cur => { advance s cur with asr := { s.asr with valid := false } }) ∧
  ∀ (s : State) (cur : SeqId), select s = some cur → cur.toNat < s.params.nseq → exec (.sds cur) s = exec .dis s

/-- SPC on an existing sequence: the target is always checked; on the live sequence it is `JMP`, on another it sets that pc and the live one
advances (40_cycle.md R233). -/
def Obligations.SetProgramCounterRule : Prop :=
  ∀ (n : SeqId) (j : IndexId) (d : Bool) (y : AddrField), encode (.spc n j d y) = pack n 0o63 j d y ∧
    ∀ (s : State) (cur : SeqId), select s = some cur → n.toNat < s.params.nseq →
      (d = true → ¬ IsAddress s (indexed s j y) →
        exec (.spc n j d y) s = .next (raised s cur .addressFault (wrap36 (indexed s j y)))) ∧
      (∀ ea, eaIndexed s j d y = .ok ea → ¬ IsAddress s ea →
        exec (.spc n j d y) s = .next (raised s cur .addressFault (wrap36 ea))) ∧
      (∀ ea, eaIndexed s j d y = .ok ea → IsAddress s ea → n = cur → exec (.spc n j d y) s = .next (jump s cur (BitVec.ofInt 18 ea))) ∧
      (∀ ea, eaIndexed s j d y = .ok ea → IsAddress s ea → n ≠ cur →
        exec (.spc n j d y) s = .next (setSeq (advance s cur) n { seqAt s n with pc := BitVec.ofInt 18 ea })) ∧
      (n = cur → exec (.spc n j d y) s = exec (.jmp j d y) s)

/-- R61: the status word that RSS puts in A, bit field by bit field, with the start-of-cycle fields. -/
def Obligations.ReadSequenceStatusRule : Prop :=
  ∀ n : SeqId, encode (.rss n) = pack n 0o64 0 false 0 ∧
    ∀ (s : State) (cur : SeqId), select s = some cur → n.toNat < s.params.nseq →
      ∃ w : Word, exec (.rss n) s = .next { advance s cur with a := w } ∧
        w.getLsbD 35 = (seqAt s n).en ∧ w.getLsbD 34 = (seqAt s n).ov ∧ w.getLsbD 33 = (seqAt s n).cy ∧
        w.extractLsb' 26 7 = 0 ∧ w.extractLsb' 18 8 = (seqAt s n).prio ∧ w.extractLsb' 0 18 = (seqAt s n).pc

/-- R64: the alarm status registers that RAS reads. That an ill-formed term, whose selector of 3 or more no word encodes, is an
IllegalInstruction is the model's choice (log entry 12). -/
def Obligations.ReadAlarmStatusRule : Prop :=
  (∀ k : Config6, encode (.ras k) = pack k 0o65 0 false 0) ∧
  ∀ (s : State) (cur : SeqId), select s = some cur →
    (∃ w : Word, exec (.ras 0) s = .next { advance s cur with a := w } ∧
      w.getLsbD 35 = s.asr.valid ∧ w.extractLsb' 32 3 = s.asr.kind ∧ w.extractLsb' 24 8 = 0 ∧
      w.extractLsb' 18 6 = s.asr.seq ∧ w.extractLsb' 0 18 = s.asr.pc) ∧
    exec (.ras 1) s = .next { advance s cur with a := s.asr.word } ∧
    exec (.ras 2) s = .next { advance s cur with a := s.asr.info } ∧
    (∀ k : Config6, 3 ≤ k.toNat → exec (.ras k) s = .next (raised s cur .illegalInstruction 0))

/-! ### Tape and punch (49_io.md) -/

/-- RDT: with a word left it completes and moves the cursor, whatever EA is; at end of tape it is a transfer to EA. -/
def Obligations.ReadTapeRule : Prop :=
  TransferLaw byIndex 0o70 .rdt (fun s _ _ => s.tapeIn.length ≤ s.tc) (fun s cur _ pc t => t = jump s cur pc)
    (fun s cur => { advance s cur with a := s.tapeIn.getD s.tc 0, tc := s.tc + 1 })

/-- R561: PCH appends A to the punch stream. -/
def Obligations.PunchRule : Prop :=
  OperateLaw 0o150100000000 .pch (fun s cur => { advance s cur with punch := s.punch ++ [s.a] })
end

