-- ==== Sys2Proof/Laws/State.lean ====
section
/-! SUPPORT. One lemma per field per update of the state, so that no proof unfolds a record update; and reading back what the accessors of
X and of the sequence table write. -/

namespace Sys2Proof.Laws
open Sys2Proof.Machine

/-! ### setSeq -/

@[simp] theorem setSeq_params (s : State) (n : SeqId) (r : SeqRec) : (setSeq s n r).params = s.params := rfl
@[simp] theorem setSeq_image (s : State) (n : SeqId) (r : SeqRec) : (setSeq s n r).image = s.image := rfl
@[simp] theorem setSeq_mode (s : State) (n : SeqId) (r : SeqRec) : (setSeq s n r).mode = s.mode := rfl
@[simp] theorem setSeq_a (s : State) (n : SeqId) (r : SeqRec) : (setSeq s n r).a = s.a := rfl
@[simp] theorem setSeq_b (s : State) (n : SeqId) (r : SeqRec) : (setSeq s n r).b = s.b := rfl
@[simp] theorem setSeq_x (s : State) (n : SeqId) (r : SeqRec) : (setSeq s n r).x = s.x := rfl
@[simp] theorem setSeq_seq (s : State) (n : SeqId) (r : SeqRec) : (setSeq s n r).seq = s.seq.set n.toNat r n.isLt := rfl
@[simp] theorem setSeq_asr (s : State) (n : SeqId) (r : SeqRec) : (setSeq s n r).asr = s.asr := rfl
@[simp] theorem setSeq_mem (s : State) (n : SeqId) (r : SeqRec) : (setSeq s n r).mem = s.mem := rfl
@[simp] theorem setSeq_tapeIn (s : State) (n : SeqId) (r : SeqRec) : (setSeq s n r).tapeIn = s.tapeIn := rfl
@[simp] theorem setSeq_tc (s : State) (n : SeqId) (r : SeqRec) : (setSeq s n r).tc = s.tc := rfl
@[simp] theorem setSeq_punch (s : State) (n : SeqId) (r : SeqRec) : (setSeq s n r).punch = s.punch := rfl
@[simp] theorem setSeq_cycles (s : State) (n : SeqId) (r : SeqRec) : (setSeq s n r).cycles = s.cycles := rfl

/-! ### halt -/

@[simp] theorem halt_params (s : State) (r : HaltRecord) : (halt s r).params = s.params := rfl
@[simp] theorem halt_image (s : State) (r : HaltRecord) : (halt s r).image = s.image := rfl
@[simp] theorem halt_mode (s : State) (r : HaltRecord) : (halt s r).mode = .halted r := rfl
@[simp] theorem halt_a (s : State) (r : HaltRecord) : (halt s r).a = s.a := rfl
@[simp] theorem halt_b (s : State) (r : HaltRecord) : (halt s r).b = s.b := rfl
@[simp] theorem halt_x (s : State) (r : HaltRecord) : (halt s r).x = s.x := rfl
@[simp] theorem halt_seq (s : State) (r : HaltRecord) : (halt s r).seq = s.seq := rfl
@[simp] theorem halt_asr (s : State) (r : HaltRecord) : (halt s r).asr = s.asr := rfl
@[simp] theorem halt_mem (s : State) (r : HaltRecord) : (halt s r).mem = s.mem := rfl
@[simp] theorem halt_tapeIn (s : State) (r : HaltRecord) : (halt s r).tapeIn = s.tapeIn := rfl
@[simp] theorem halt_tc (s : State) (r : HaltRecord) : (halt s r).tc = s.tc := rfl
@[simp] theorem halt_punch (s : State) (r : HaltRecord) : (halt s r).punch = s.punch := rfl
@[simp] theorem halt_cycles (s : State) (r : HaltRecord) : (halt s r).cycles = s.cycles := rfl

/-! ### tick -/

@[simp] theorem tick_params (s : State) : (tick s).params = s.params := rfl
@[simp] theorem tick_image (s : State) : (tick s).image = s.image := rfl
@[simp] theorem tick_mode (s : State) : (tick s).mode = s.mode := rfl
@[simp] theorem tick_a (s : State) : (tick s).a = s.a := rfl
@[simp] theorem tick_b (s : State) : (tick s).b = s.b := rfl
@[simp] theorem tick_x (s : State) : (tick s).x = s.x := rfl
@[simp] theorem tick_seq (s : State) : (tick s).seq = s.seq := rfl
@[simp] theorem tick_asr (s : State) : (tick s).asr = s.asr := rfl
@[simp] theorem tick_mem (s : State) : (tick s).mem = s.mem := rfl
@[simp] theorem tick_tapeIn (s : State) : (tick s).tapeIn = s.tapeIn := rfl
@[simp] theorem tick_tc (s : State) : (tick s).tc = s.tc := rfl
@[simp] theorem tick_punch (s : State) : (tick s).punch = s.punch := rfl
@[simp] theorem tick_cycles (s : State) : (tick s).cycles = s.cycles + 1 := rfl

/-! ### writeX -/

@[simp] theorem writeX_params (s : State) (j : IndexId) (v : IndexWord) : (writeX s j v).params = s.params := by unfold writeX; split <;> rfl
@[simp] theorem writeX_image (s : State) (j : IndexId) (v : IndexWord) : (writeX s j v).image = s.image := by unfold writeX; split <;> rfl
@[simp] theorem writeX_mode (s : State) (j : IndexId) (v : IndexWord) : (writeX s j v).mode = s.mode := by unfold writeX; split <;> rfl
@[simp] theorem writeX_a (s : State) (j : IndexId) (v : IndexWord) : (writeX s j v).a = s.a := by unfold writeX; split <;> rfl
@[simp] theorem writeX_b (s : State) (j : IndexId) (v : IndexWord) : (writeX s j v).b = s.b := by unfold writeX; split <;> rfl
@[simp] theorem writeX_seq (s : State) (j : IndexId) (v : IndexWord) : (writeX s j v).seq = s.seq := by unfold writeX; split <;> rfl
@[simp] theorem writeX_asr (s : State) (j : IndexId) (v : IndexWord) : (writeX s j v).asr = s.asr := by unfold writeX; split <;> rfl
@[simp] theorem writeX_mem (s : State) (j : IndexId) (v : IndexWord) : (writeX s j v).mem = s.mem := by unfold writeX; split <;> rfl
@[simp] theorem writeX_tapeIn (s : State) (j : IndexId) (v : IndexWord) : (writeX s j v).tapeIn = s.tapeIn := by unfold writeX; split <;> rfl
@[simp] theorem writeX_tc (s : State) (j : IndexId) (v : IndexWord) : (writeX s j v).tc = s.tc := by unfold writeX; split <;> rfl
@[simp] theorem writeX_punch (s : State) (j : IndexId) (v : IndexWord) : (writeX s j v).punch = s.punch := by unfold writeX; split <;> rfl
@[simp] theorem writeX_cycles (s : State) (j : IndexId) (v : IndexWord) : (writeX s j v).cycles = s.cycles := by unfold writeX; split <;> rfl

/-! ### The sequence table -/

@[simp] theorem seqAt_setSeq_self (s : State) (n : SeqId) (r : SeqRec) : seqAt (setSeq s n r) n = r := by
  simp [seqAt]

theorem seqAt_setSeq (s : State) (n m : SeqId) (r : SeqRec) : seqAt (setSeq s n r) m = if m = n then r else seqAt s m := by
  by_cases h : m = n
  · simp [h]
  · have h' : n.toNat ≠ m.toNat := fun e => h (BitVec.eq_of_toNat_eq e.symm)
    simp [seqAt, h, Vector.getElem_set_ne _ _ h']

theorem seqAt_setSeq_ne {s : State} {n m : SeqId} {r : SeqRec} (h : m ≠ n) : seqAt (setSeq s n r) m = seqAt s m := by
  rw [seqAt_setSeq, if_neg h]

/-- Two states with the same table have the same records. -/
theorem seqAt_congr {s t : State} (h : s.seq = t.seq) (n : SeqId) : seqAt s n = seqAt t n := by
  simp [seqAt, h]

@[simp] theorem setSeq_setSeq_self (s : State) (n : SeqId) (r r' : SeqRec) : setSeq (setSeq s n r) n r' = setSeq s n r' := by
  simp [setSeq]

@[simp] theorem setSeq_seqAt (s : State) (n : SeqId) : setSeq s n (seqAt s n) = s := by
  simp [setSeq, seqAt]

@[simp] theorem seqAt_tick (s : State) (n : SeqId) : seqAt (tick s) n = seqAt s n := rfl
@[simp] theorem seqAt_halt (s : State) (r : HaltRecord) (n : SeqId) : seqAt (halt s r) n = seqAt s n := rfl
@[simp] theorem seqAt_writeX (s : State) (j : IndexId) (v : IndexWord) (n : SeqId) : seqAt (writeX s j v) n = seqAt s n :=
  seqAt_congr (writeX_seq s j v) n

@[simp] theorem seqAt_initial (p : Params) (image : List Word) (n : SeqId) : seqAt (State.initial p image) n = SeqRec.reset := by
  simp [seqAt, State.initial]

theorem setSeq_comm {n m : SeqId} (s : State) (r r' : SeqRec) (h : n ≠ m) : setSeq (setSeq s n r) m r' = setSeq (setSeq s m r') n r := by
  have h' : n.toNat ≠ m.toNat := fun e => h (BitVec.eq_of_toNat_eq e)
  simp [setSeq, Vector.set_comm _ _ h']

theorem setSeq_writeX (s : State) (j : IndexId) (v : IndexWord) (n : SeqId) (r : SeqRec) :
    setSeq (writeX s j v) n r = writeX (setSeq s n r) j v := by
  unfold writeX
  split <;> rfl

/-! ### The index registers (10_state.md R45, R46) -/

@[simp] theorem readX_zero (s : State) : readX s 0#6 = 0#18 := rfl
@[simp] theorem writeX_zero (s : State) (v : IndexWord) : writeX s 0#6 v = s := rfl

theorem readX_writeX_self {s : State} {j : IndexId} {v : IndexWord} (h : j ≠ 0#6) : readX (writeX s j v) j = v := by
  unfold readX writeX
  rw [if_neg h, if_neg h]
  exact Vector.getElem_set_self _

theorem readX_writeX_ne {s : State} {j k : IndexId} {v : IndexWord} (h : k ≠ j) : readX (writeX s j v) k = readX s k := by
  have h' : j.toNat ≠ k.toNat := fun e => h (BitVec.eq_of_toNat_eq e.symm)
  unfold readX writeX
  by_cases hj : j = 0#6
  · rw [if_pos hj]
  · rw [if_neg hj]
    by_cases hk : k = 0#6
    · rw [if_pos hk, if_pos hk]
    · rw [if_neg hk, if_neg hk]
      exact Vector.getElem_set_ne j.isLt k.isLt h'

theorem readX_congr {s t : State} (h : s.x = t.x) (j : IndexId) : readX s j = readX t j := by
  simp [readX, h]

@[simp] theorem readX_initial (p : Params) (image : List Word) (j : IndexId) : readX (State.initial p image) j = 0#18 := by
  simp [readX, State.initial]

/-- Nothing is ever put into the slot of X[0]. -/
theorem writeX_slotZero (s : State) (j : IndexId) (v : IndexWord) (h : s.x[0] = 0#18) : (writeX s j v).x[0] = 0#18 := by
  unfold writeX
  split
  · exact h
  · rename_i hj
    have : j.toNat ≠ 0 := fun e => hj (BitVec.eq_of_toNat_eq e)
    simpa [Vector.getElem_set_ne _ _ this] using h

end Sys2Proof.Laws
end

