-- ==== Sys2Proof/Laws/Ops.lean ====
section
/-! SUPPORT. One lemma per shared operation, saying once everything it can do: bounds checks, effective addresses, buffered writes and their
commit, alarms, the execute phase of the live sequence, and the phases before it. -/

namespace Sys2Proof.Laws
open Sys2Proof.Machine

/-! ### Sequencing of fallible phases -/

@[simp] theorem ok_bind {ε α β : Type} (a : α) (f : α → Except ε β) : (Except.ok a >>= f) = f a := rfl
@[simp] theorem error_bind {ε α β : Type} (e : ε) (f : α → Except ε β) : ((Except.error e : Except ε α) >>= f) = .error e := rfl
@[simp] theorem pure_eq_ok {ε α : Type} (a : α) : (pure a : Except ε α) = .ok a := rfl

/-- A bind that succeeds went through a value. -/
theorem bind_ok_iff {ε α β : Type} {x : Except ε α} {f : α → Except ε β} {b : β} :
    (x >>= f) = .ok b ↔ ∃ a, x = .ok a ∧ f a = .ok b := by
  cases x <;> simp

/-- A bind that fails failed first or later. -/
theorem bind_error_iff {ε α β : Type} {x : Except ε α} {f : α → Except ε β} {e : ε} :
    (x >>= f) = .error e ↔ x = .error e ∨ ∃ a, x = .ok a ∧ f a = .error e := by
  cases x <;> simp

/-! ### Bounds (20_memory.md R103 to R105; 40_cycle.md R219 to R223) -/

theorem inBounds_iff {s : State} {addr : Int} : inBounds s addr = true ↔ 0 ≤ addr ∧ addr < s.params.memSize := by
  simp [inBounds]

theorem memRead_in {s : State} {addr : Int} (h : inBounds s addr = true) : memRead s addr = .ok (s.mem.read addr.toNat) := if_pos h
theorem memRead_out {s : State} {addr : Int} (h : inBounds s addr = false) : memRead s addr = .error (addressFault addr) := by
  simp [memRead, h]
theorem memWrite_in {s : State} {addr : Int} {v : Word} (h : inBounds s addr = true) : memWrite s addr v = .ok (.mem addr.toNat v) := if_pos h
theorem memWrite_out {s : State} {addr : Int} {v : Word} (h : inBounds s addr = false) : memWrite s addr v = .error (addressFault addr) := by
  simp [memWrite, h]
theorem target_in {s : State} {addr : Int} (h : inBounds s addr = true) : target s addr = .ok (pcOf addr) := if_pos h
theorem target_out {s : State} {addr : Int} (h : inBounds s addr = false) : target s addr = .error (addressFault addr) := by
  simp [target, h]
theorem checkSeq_in {s : State} {n : SeqId} (h : n.toNat < s.params.nseq) : checkSeq s n = .ok () := if_pos h
theorem checkSeq_out {s : State} {n : SeqId} (h : s.params.nseq ≤ n.toNat) : checkSeq s n = .error (addressFault (n.toNat : Int)) :=
  if_neg (Nat.not_lt.mpr h)

theorem memRead_ok_iff {s : State} {addr : Int} {v : Word} : memRead s addr = .ok v ↔ inBounds s addr = true ∧ s.mem.read addr.toNat = v := by
  cases h : inBounds s addr
  · simp [memRead_out h]
  · simp [memRead_in h]

theorem memWrite_ok_iff {s : State} {addr : Int} {v : Word} {w : Write} :
    memWrite s addr v = .ok w ↔ inBounds s addr = true ∧ w = .mem addr.toNat v := by
  cases h : inBounds s addr
  · simp [memWrite_out h]
  · simp [memWrite_in h, eq_comm]

theorem target_ok_iff {s : State} {addr : Int} {t : Pc} : target s addr = .ok t ↔ inBounds s addr = true ∧ t = pcOf addr := by
  cases h : inBounds s addr
  · simp [target_out h]
  · simp [target_in h, eq_comm]

theorem checkSeq_ok_iff {s : State} {n : SeqId} : checkSeq s n = .ok () ↔ n.toNat < s.params.nseq := by
  by_cases h : n.toNat < s.params.nseq
  · simp [checkSeq_in h, h]
  · simp [checkSeq_out (Nat.not_lt.mp h), h]

/-- What fails in the operand phases fails with an AddressFault. -/
theorem memRead_error {s : State} {addr : Int} {e : Abort} (h : memRead s addr = .error e) : ∃ a, e = addressFault a := by
  cases hb : inBounds s addr
  · rw [memRead_out hb] at h; exact ⟨addr, by simpa using h.symm⟩
  · rw [memRead_in hb] at h; cases h

/-! ### Effective addresses (40_cycle.md R220, R221) -/

@[simp] theorem eaIndexed_direct (s : State) (j : IndexId) (y : AddrField) : eaIndexed s j false y = .ok (indexed s j y) := rfl
@[simp] theorem eaPlain_direct (s : State) (y : AddrField) : eaPlain s false y = .ok (y.toNat : Int) := rfl

theorem indirect_in {s : State} {ea0 : Int} (h : inBounds s ea0 = true) :
    indirect s ea0 = .ok (((s.mem.read ea0.toNat).extractLsb' 0 17).toNat : Int) := by
  simp [indirect, memRead_in h]

theorem indirect_out {s : State} {ea0 : Int} (h : inBounds s ea0 = false) : indirect s ea0 = .error (addressFault ea0) := by
  simp [indirect, memRead_out h]

theorem resolve_deferred (s : State) (ea0 : Int) : resolve s true ea0 = indirect s ea0 := rfl

/-- The 18 bits of a pc hold every address below MEM_SIZE ≤ 2^17 (10_state.md R51). -/
theorem pcOf_toNat {a : Int} (h0 : 0 ≤ a) (h : a < 2 ^ 18) : (pcOf a).toNat = a.toNat := by
  simp only [pcOf, BitVec.toNat_ofInt]
  omega

/-! ### Buffered writes and commit (40_cycle.md R230 to R232) -/

@[simp] theorem applyWrites_nil (s : State) : applyWrites s [] = s := rfl
@[simp] theorem applyWrites_cons (s : State) (w : Write) (ws : List Write) : applyWrites s (w :: ws) = applyWrites (applyWrite s w) ws := rfl
theorem applyWrites_append (s : State) (ws vs : List Write) : applyWrites s (ws ++ vs) = applyWrites (applyWrites s ws) vs :=
  List.foldl_append

/-- A commit without an explicit next-pc: the writes, then the pc advanced by one from where the cycle found it (R232). -/
theorem commit_advance (s : State) (cur : SeqId) (ws : List Write) :
    commit s cur (advanceWith ws) =
      setSeq (applyWrites s ws) cur { seqAt (applyWrites s ws) cur with pc := (seqAt s cur).pc + 1 } := by
  simp [commit, commitWrites, applyWrites_append, advanceWith, nextPc, applyWrite]

/-- A commit with an explicit next-pc (R232). -/
theorem commit_jump (s : State) (cur : SeqId) (ws : List Write) (t : Pc) :
    commit s cur (jumpWith ws t) = setSeq (applyWrites s ws) cur { seqAt (applyWrites s ws) cur with pc := t } := by
  simp [commit, commitWrites, applyWrites_append, jumpWith, nextPc, applyWrite]

/-! ### Alarms (60_exceptions.md R610) -/

theorem catcher_some_iff {s : State} {k : AlarmKind} {cur h : SeqId} :
    catcher s k cur = some h ↔ alarmHandler s k = some h ∧ h ≠ cur ∧ s.asr.valid = false := by
  unfold catcher
  cases alarmHandler s k with
  | none => simp
  | some h' => by_cases hc : h' ≠ cur ∧ s.asr.valid = false <;> simp [hc] <;> aesop

theorem alarm_caught {s : State} {k : AlarmKind} {cur h : SeqId} (hc : catcher s k cur = some h) (p : Pc) (w info : Word) :
    alarm s k cur p w info = applyWrites s (alarmWrites k cur h p w info) := by
  simp [alarm, hc]

theorem alarm_fatal {s : State} {k : AlarmKind} {cur : SeqId} (hc : catcher s k cur = none) (p : Pc) (w info : Word) :
    alarm s k cur p w info = halt s ⟨k.reason, cur, p, w, info⟩ := by
  simp [alarm, hc]

/-- IllegalInstruction is never caught (R601). -/
@[simp] theorem catcher_illegal (s : State) (cur : SeqId) : catcher s .illegalInstruction cur = none := rfl

/-- An alarm is a switch to its catcher or a halt, and nothing else. -/
theorem alarm_cases (s : State) (k : AlarmKind) (cur : SeqId) (p : Pc) (w info : Word) :
    (∃ h, catcher s k cur = some h ∧ alarm s k cur p w info = applyWrites s (alarmWrites k cur h p w info)) ∨
    (catcher s k cur = none ∧ alarm s k cur p w info = halt s ⟨k.reason, cur, p, w, info⟩) := by
  cases hc : catcher s k cur with
  | none => exact .inr ⟨rfl, alarm_fatal hc p w info⟩
  | some h => exact .inl ⟨h, rfl, alarm_caught hc p w info⟩

/-! ### The execute phase (40_cycle.md R235) -/

@[simp] theorem finish_ok (s : State) (cur : SeqId) (e : Effects) : finish s cur (.ok e) = commit s cur e := rfl
@[simp] theorem finish_raise (s : State) (cur : SeqId) (k : AlarmKind) (info : Word) :
    finish s cur (.error (.raise k info)) = alarm s k cur (seqAt s cur).pc (fetchedWord s cur) info := rfl
@[simp] theorem finish_addressFault (s : State) (cur : SeqId) (a : Int) :
    finish s cur (.error (addressFault a)) = alarm s .addressFault cur (seqAt s cur).pc (fetchedWord s cur) (wrap36 a) := rfl
@[simp] theorem finish_halt (s : State) (cur : SeqId) :
    finish s cur (.error .halt) = halt s ⟨.explicitHalt, cur, (seqAt s cur).pc, fetchedWord s cur, 0⟩ := rfl

theorem runLive_some {s : State} {cur : SeqId} (h : select s = some cur) (act : SeqId → Action) :
    runLive s act = .next (finish s cur (act cur)) := by
  simp [runLive, h]

theorem runLive_none {s : State} (h : select s = none) (act : SeqId → Action) : runLive s act = .next (haltNoRunnable s) := by
  simp [runLive, h]

/-- `exec` runs the effect set of its instruction, for every instruction. -/
theorem exec_eq_runLive (i : Instr) (s : State) : exec i s = runLive s (effectsOf i s) := by
  cases i <;> rfl

theorem exec_of_live (i : Instr) {s : State} {cur : SeqId} (h : select s = some cur) : exec i s = .next (finish s cur (effectsOf i s cur)) := by
  rw [exec_eq_runLive, runLive_some h]

/-- Everything `exec` can answer: the halt of a state without a live sequence, or how the live sequence's cycle ends. -/
theorem exec_cases {i : Instr} {s t : State} (h : exec i s = .next t) :
    (select s = none ∧ t = haltNoRunnable s) ∨ ∃ cur, select s = some cur ∧ t = finish s cur (effectsOf i s cur) := by
  rw [exec_eq_runLive] at h
  cases hs : select s with
  | none => rw [runLive_none hs] at h; exact .inl ⟨rfl, by simpa using h.symm⟩
  | some cur => rw [runLive_some hs] at h; exact .inr ⟨cur, rfl, by simpa using h.symm⟩

/-! ### The step (40_cycle.md R235) -/

theorem select_tick (s : State) : select (tick s) = select s := rfl
@[simp] theorem fetchedWord_tick (s : State) (cur : SeqId) : fetchedWord (tick s) cur = fetchedWord s cur := rfl

theorem beginCycle_none {s : State} (h : select s = none) : beginCycle s = .ended (haltNoRunnable s) := by
  simp [beginCycle, h]

theorem beginCycle_fetchFault {s : State} {cur : SeqId} (h : select s = some cur) (hp : s.params.memSize ≤ (seqAt s cur).pc.toNat) :
    beginCycle s = .ended (alarm (tick s) .addressFault cur (seqAt s cur).pc 0 (wrap36 ((seqAt s cur).pc.toNat : Int))) := by
  simp [beginCycle, h, Nat.not_lt.mpr hp]

theorem beginCycle_illegal {s : State} {cur : SeqId} {e : Illegal} (h : select s = some cur)
    (hp : (seqAt s cur).pc.toNat < s.params.memSize) (hd : decode (fetchedWord s cur) = .error e) :
    beginCycle s = .ended (alarm (tick s) .illegalInstruction cur (seqAt s cur).pc (fetchedWord s cur) 0) := by
  simp [beginCycle, h, hp, hd]

theorem beginCycle_run {s : State} {cur : SeqId} {i : Instr} (h : select s = some cur)
    (hp : (seqAt s cur).pc.toNat < s.params.memSize) (hd : decode (fetchedWord s cur) = .ok i) : beginCycle s = .run i (tick s) := by
  simp [beginCycle, h, hp, hd]

theorem step_running {s : State} (hl : s.params.legal = true) (hm : s.mode = .running) :
    step s = match beginCycle s with | .ended s' => .next s' | .run i s' => exec i s' := by
  unfold step
  rw [if_pos hl, hm] <;> rfl

theorem step_booting {s : State} (hl : s.params.legal = true) (hm : s.mode = .booting) : step s = .next (bootStep s) := by
  simp [step, hl, hm]

theorem step_halted {s : State} {r : HaltRecord} (hl : s.params.legal = true) (hm : s.mode = .halted r) : step s = .fault (.halted r) := by
  simp [step, hl, hm]

/-- Everything a step that answers a next state can have done. -/
theorem step_cases {s t : State} (h : step s = .next t) :
    s.params.legal = true ∧
    ((s.mode = .booting ∧ t = bootStep s) ∨
     (s.mode = .running ∧ select s = none ∧ t = haltNoRunnable s) ∨
     (s.mode = .running ∧ ∃ cur, select s = some cur ∧ s.params.memSize ≤ (seqAt s cur).pc.toNat ∧
        t = alarm (tick s) .addressFault cur (seqAt s cur).pc 0 (wrap36 ((seqAt s cur).pc.toNat : Int))) ∨
     (s.mode = .running ∧ ∃ cur e, select s = some cur ∧ (seqAt s cur).pc.toNat < s.params.memSize ∧
        decode (fetchedWord s cur) = .error e ∧
        t = halt (tick s) ⟨.illegalInstruction, cur, (seqAt s cur).pc, fetchedWord s cur, 0⟩) ∨
     (s.mode = .running ∧ ∃ cur i, select s = some cur ∧ (seqAt s cur).pc.toNat < s.params.memSize ∧
        decode (fetchedWord s cur) = .ok i ∧ t = finish (tick s) cur (effectsOf i (tick s) cur))) := by
  cases hl : s.params.legal with
  | false => simp [step, hl] at h
  | true =>
    refine ⟨rfl, ?_⟩
    cases hm : s.mode with
    | booting =>
      rw [step_booting hl hm] at h
      exact .inl ⟨rfl, by simpa using h.symm⟩
    | halted r =>
      rw [step_halted hl hm] at h
      cases h
    | running =>
      refine .inr ?_
      rw [step_running hl hm] at h
      cases hs : select s with
      | none =>
        rw [beginCycle_none hs] at h
        exact .inl ⟨rfl, rfl, by simpa using h.symm⟩
      | some cur =>
        refine .inr ?_
        by_cases hp : (seqAt s cur).pc.toNat < s.params.memSize
        · refine .inr ?_
          cases hd : decode (fetchedWord s cur) with
          | error e =>
            rw [beginCycle_illegal hs hp hd, alarm_fatal (catcher_illegal _ _)] at h
            exact .inl ⟨rfl, cur, e, rfl, hp, hd, by simpa [AlarmKind.reason] using h.symm⟩
          | ok i =>
            rw [beginCycle_run hs hp hd] at h
            have hs' : select (tick s) = some cur := hs
            simp only [exec_of_live i hs', Host.Outcome.next.injEq] at h
            exact .inr ⟨rfl, cur, i, rfl, hp, hd, h.symm⟩
        · rw [beginCycle_fetchFault hs (Nat.not_lt.mp hp)] at h
          exact .inl ⟨rfl, cur, rfl, Nat.not_lt.mp hp, by simpa using h.symm⟩

end Sys2Proof.Laws
end

