-- ==== Sys2Proof/Laws/Effects.lean ====
section
/-! SUPPORT. What the effect set of an instruction may hold, once for all instructions: which components it writes, where its explicit next-pc
lies, and what can abandon it. -/

namespace Sys2Proof.Laws
open Sys2Proof.Machine

/-- Whether an instruction stores to memory. -/
def IsStore (i : Instr) : Prop :=
  (∃ j d y, i = .sta j d y) ∨ (∃ j d y, i = .stb j d y) ∨ (∃ j d y, i = .stz j d y) ∨ ∃ j d y, i = .stx j d y

/-- The writes that an instruction's effect set may hold. -/
def Allowed (i : Instr) (s : State) (cur : SeqId) : Write → Prop
  | .a _ | .b _ | .x _ _ => True
  | .seqPc n v => n ≠ cur ∧ n.toNat < s.params.nseq ∧ (s.params.memSize ≤ 2 ^ 17 → v.toNat < s.params.memSize) ∧ ∃ j d y, i = .spc n j d y
  | .seqEn n _ => ((i = .sen n ∨ i = .sds n) ∧ n.toNat < s.params.nseq) ∨ (i = .dis ∧ n = cur)
  | .seqPrio n _ => n.toNat < s.params.nseq ∧ ∃ j y, i = .spr n j y
  | .seqOv n _ | .seqCy n _ => n = cur
  | .asr _ => False
  | .asrValid v => i = .ack ∧ v = false
  | .mem addr _ => addr < s.params.memSize ∧ IsStore i
  | .tapeCursor v => v = s.tc + 1 ∧ s.tc < s.tapeIn.length ∧ ∃ j d y, i = .rdt j d y
  | .punch v => v = s.a ∧ i = .pch

/-- An effect set: allowed writes, and a next-pc that is an address of memory or a skip. -/
def Admits (i : Instr) (s : State) (cur : SeqId) (e : Effects) : Prop :=
  (∀ w ∈ e.writes, Allowed i s cur w) ∧
  ∀ t, e.nextPc = some t → (s.params.memSize ≤ 2 ^ 17 → t.toNat < s.params.memSize) ∨ t = (seqAt s cur).pc + 2

/-- The aborts an instruction may meet. -/
def AbortOf (i : Instr) : Abort → Prop
  | .halt => i = .hlt
  | .raise k _ => k ≠ .illegalInstruction ∨ ∃ c, i = .ras c

theorem admits_advance {i : Instr} {s : State} {cur : SeqId} {ws : List Write} (h : ∀ w ∈ ws, Allowed i s cur w) :
    Admits i s cur (advanceWith ws) :=
  ⟨h, fun _ ht => by cases ht⟩

theorem admits_skip {i : Instr} {s : State} {cur : SeqId} : Admits i s cur (skip s cur) :=
  ⟨by simp [skip, jumpWith], fun _ ht => .inr (Option.some.inj ht).symm⟩

/-- A checked target is an address of memory. -/
theorem target_bound {s : State} {ea : Int} {t : Pc} (h : target s ea = .ok t) (hm : s.params.memSize ≤ 2 ^ 17) : t.toNat < s.params.memSize := by
  obtain ⟨hb, rfl⟩ := target_ok_iff.mp h
  obtain ⟨h0, h1⟩ := inBounds_iff.mp hb
  rw [pcOf_toNat h0 (by omega)]
  omega

theorem admits_jump {i : Instr} {s : State} {cur : SeqId} {ws : List Write} {ea : Int} {t : Pc} (h : ∀ w ∈ ws, Allowed i s cur w)
    (ht : target s ea = .ok t) : Admits i s cur (jumpWith ws t) :=
  ⟨h, fun _ h' => .inl fun hm => by cases h'; exact target_bound ht hm⟩

theorem admits_transferIf {i : Instr} {s : State} {cur : SeqId} {taken : Bool} {ws : List Write} {ea : Int} {e : Effects}
    (hw : ∀ w ∈ ws, Allowed i s cur w) (h : transferIf s taken ws ea = .ok e) : Admits i s cur e := by
  unfold transferIf at h
  split at h
  · obtain ⟨t, ht, he⟩ := bind_ok_iff.mp h
    cases he
    exact admits_jump hw ht
  · cases h
    exact admits_advance fun _ h => by cases h

/-- The effect set of every instruction admits only what `Admits` says. -/
theorem effects_admit {i : Instr} {s : State} {cur : SeqId} {e : Effects} (h : effectsOf i s cur = .ok e) : Admits i s cur e := by
  cases i
  case sta | stb | stz | stx =>
    obtain ⟨ea, -, h⟩ := bind_ok_iff.mp h
    obtain ⟨w, hw, h⟩ := bind_ok_iff.mp h
    cases h
    obtain ⟨hb, rfl⟩ := memWrite_ok_iff.mp hw
    obtain ⟨h0, h1⟩ := inBounds_iff.mp hb
    refine admits_advance fun w hw => ?_
    cases List.mem_singleton.mp hw
    exact ⟨by omega, by simp [IsStore]⟩
  case djp | jmp | jaz | jnz | jan | jap | jov | jcy | jsx =>
    obtain ⟨ea, -, h⟩ := bind_ok_iff.mp h
    exact admits_transferIf (by simp [Allowed]) h
  case lda | ldb | add | sub | adc | sbc | mul | and | ior | xor =>
    obtain ⟨m, -, h⟩ := bind_ok_iff.mp h
    cases h
    exact admits_advance (by simp [Allowed])
  case ldx =>
    obtain ⟨ea, -, h⟩ := bind_ok_iff.mp h
    obtain ⟨m, -, h⟩ := bind_ok_iff.mp h
    cases h
    exact admits_advance (by simp [Allowed])
  case adv | sbv | div =>
    obtain ⟨ea, -, h⟩ := bind_ok_iff.mp h
    obtain ⟨m, -, h⟩ := bind_ok_iff.mp h
    try dsimp only at h
    split at h
    · cases h
    · cases h
      exact admits_advance (by simp [Allowed])
  case ske | skn | skl | skg =>
    obtain ⟨m, -, h⟩ := bind_ok_iff.mp h
    cases h
    split
    · exact admits_skip
    · exact admits_advance (by simp)
  case sen | sds | spr | rss =>
    obtain ⟨u, hn, h⟩ := bind_ok_iff.mp h
    cases h
    exact admits_advance (by simp [Allowed, checkSeq_ok_iff.mp hn])
  case spc =>
    obtain ⟨u, hn, h⟩ := bind_ok_iff.mp h
    obtain ⟨ea, -, h⟩ := bind_ok_iff.mp h
    obtain ⟨t, ht, h⟩ := bind_ok_iff.mp h
    cases h
    split
    · exact admits_jump (by simp) ht
    · rename_i hne
      exact admits_advance (by simpa [Allowed, checkSeq_ok_iff.mp hn, hne] using target_bound ht)
  case rdt =>
    obtain ⟨ea, -, h⟩ := bind_ok_iff.mp h
    split at h
    · rename_i w hw
      cases h
      exact admits_advance (by simp [Allowed, (List.getElem?_eq_some_iff.mp hw).1])
    · exact admits_transferIf (by simp) h
  case shl | shr | sar =>
    simp only [effectsOf, effShl, effShr, effSar] at h
    split at h <;> cases h <;> exact admits_advance (by simp [Allowed])
  case ras =>
    simp only [effectsOf, effRas] at h
    split at h <;> cases h <;> exact admits_advance (by simp [Allowed])
  case hlt => cases h
  all_goals
    cases h
    exact admits_advance (by simp [Allowed])

/-! ### What can abandon an instruction -/

theorem abort_address {i : Instr} {a : Int} : AbortOf i (addressFault a) := .inl (by simp)

theorem abort_memRead {i : Instr} {s : State} {a : Int} {x : Abort} (h : memRead s a = .error x) : AbortOf i x := by
  obtain ⟨b, rfl⟩ := memRead_error h
  exact abort_address

theorem abort_memWrite {i : Instr} {s : State} {a : Int} {v : Word} {x : Abort} (h : memWrite s a v = .error x) : AbortOf i x := by
  unfold memWrite at h
  split at h
  · cases h
  · cases h
    exact abort_address

theorem abort_target {i : Instr} {s : State} {a : Int} {x : Abort} (h : target s a = .error x) : AbortOf i x := by
  unfold target at h
  split at h
  · cases h
  · cases h
    exact abort_address

theorem abort_checkSeq {i : Instr} {s : State} {n : SeqId} {x : Abort} (h : checkSeq s n = .error x) : AbortOf i x := by
  unfold checkSeq at h
  split at h
  · cases h
  · cases h
    exact abort_address

theorem abort_resolve {i : Instr} {s : State} {d : Bool} {ea0 : Int} {x : Abort} (h : resolve s d ea0 = .error x) : AbortOf i x := by
  cases d
  · cases h
  · rcases bind_error_iff.mp h with h | ⟨v, -, h⟩
    · exact abort_memRead h
    · cases h

theorem abort_operand {i : Instr} {s : State} {j : IndexId} {d : Bool} {y : AddrField} {x : Abort} (h : operand s j d y = .error x) :
    AbortOf i x := by
  rcases bind_error_iff.mp h with h | ⟨ea, -, h⟩
  · exact abort_resolve h
  · exact abort_memRead h

theorem abort_transferIf {i : Instr} {s : State} {taken : Bool} {ws : List Write} {ea : Int} {x : Abort}
    (h : transferIf s taken ws ea = .error x) : AbortOf i x := by
  unfold transferIf at h
  split at h
  · rcases bind_error_iff.mp h with h | ⟨t, -, h⟩
    · exact abort_target h
    · cases h
  · cases h

/-- What can abandon an instruction: HLT halts, an AddressFault or ArithmeticFault, and for an ill-formed RAS alone IllegalInstruction. -/
theorem effects_abort {i : Instr} {s : State} {cur : SeqId} {x : Abort} (h : effectsOf i s cur = .error x) : AbortOf i x := by
  cases i
  case sta | stb | stz | stx =>
    rcases bind_error_iff.mp h with h | ⟨ea, -, h⟩
    · exact abort_resolve h
    · rcases bind_error_iff.mp h with h | ⟨w, -, h⟩
      · exact abort_memWrite h
      · cases h
  case djp | jmp | jaz | jnz | jan | jap | jov | jcy | jsx =>
    rcases bind_error_iff.mp h with h | ⟨ea, -, h⟩
    · exact abort_resolve h
    · exact abort_transferIf h
  case lda | ldb | add | sub | adc | sbc | mul | and | ior | xor | ske | skn | skl | skg =>
    rcases bind_error_iff.mp h with h | ⟨m, -, h⟩
    · exact abort_operand h
    · cases h
  case ldx =>
    rcases bind_error_iff.mp h with h | ⟨ea, -, h⟩
    · exact abort_resolve h
    · rcases bind_error_iff.mp h with h | ⟨m, -, h⟩
      · exact abort_memRead h
      · cases h
  case adv | sbv | div =>
    rcases bind_error_iff.mp h with h | ⟨ea, -, h⟩
    · exact abort_resolve h
    · rcases bind_error_iff.mp h with h | ⟨m, -, h⟩
      · exact abort_memRead h
      · try dsimp only at h
        split at h
        · cases h
          exact .inl (by simp)
        · cases h
  case sen | sds | spr | rss =>
    rcases bind_error_iff.mp h with h | ⟨u, -, h⟩
    · exact abort_checkSeq h
    · cases h
  case spc =>
    rcases bind_error_iff.mp h with h | ⟨u, -, h⟩
    · exact abort_checkSeq h
    · rcases bind_error_iff.mp h with h | ⟨ea, -, h⟩
      · exact abort_resolve h
      · rcases bind_error_iff.mp h with h | ⟨t, -, h⟩
        · exact abort_target h
        · cases h
  case rdt =>
    rcases bind_error_iff.mp h with h | ⟨ea, -, h⟩
    · exact abort_resolve h
    · split at h
      · cases h
      · exact abort_transferIf h
  case shl | shr | sar =>
    simp only [effectsOf, effShl, effShr, effSar] at h
    split at h <;> cases h
  case ras c =>
    simp only [effectsOf, effRas] at h
    split at h <;> cases h
    exact .inr ⟨c, rfl⟩
  case hlt =>
    cases h
    rfl
  all_goals cases h

/-! ### What a commit leaves unchanged -/

@[simp] theorem applyWrite_params (s : State) (w : Write) : (applyWrite s w).params = s.params := by cases w <;> simp [applyWrite]
@[simp] theorem applyWrite_image (s : State) (w : Write) : (applyWrite s w).image = s.image := by cases w <;> simp [applyWrite]
@[simp] theorem applyWrite_mode (s : State) (w : Write) : (applyWrite s w).mode = s.mode := by cases w <;> simp [applyWrite]
@[simp] theorem applyWrite_tapeIn (s : State) (w : Write) : (applyWrite s w).tapeIn = s.tapeIn := by cases w <;> simp [applyWrite]
@[simp] theorem applyWrite_cycles (s : State) (w : Write) : (applyWrite s w).cycles = s.cycles := by cases w <;> simp [applyWrite]

/-- What every buffered write of a list leaves unchanged, the list leaves unchanged. -/
theorem applyWrites_frame {α : Type} (f : State → α) {P : Write → Prop} (h : ∀ s w, P w → f (applyWrite s w) = f s) (s : State)
    {ws : List Write} (hw : ∀ w ∈ ws, P w) : f (applyWrites s ws) = f s := by
  induction ws generalizing s with
  | nil => rfl
  | cons w ws ih =>
    rw [applyWrites_cons, ih (applyWrite s w) fun v hv => hw v (List.mem_cons_of_mem _ hv), h s w (hw w List.mem_cons_self)]

@[simp] theorem applyWrites_params (s : State) (ws : List Write) : (applyWrites s ws).params = s.params :=
  applyWrites_frame State.params (P := fun _ => True) (fun s w _ => applyWrite_params s w) s fun _ _ => trivial
@[simp] theorem applyWrites_image (s : State) (ws : List Write) : (applyWrites s ws).image = s.image :=
  applyWrites_frame State.image (P := fun _ => True) (fun s w _ => applyWrite_image s w) s fun _ _ => trivial
@[simp] theorem applyWrites_mode (s : State) (ws : List Write) : (applyWrites s ws).mode = s.mode :=
  applyWrites_frame State.mode (P := fun _ => True) (fun s w _ => applyWrite_mode s w) s fun _ _ => trivial
@[simp] theorem applyWrites_tapeIn (s : State) (ws : List Write) : (applyWrites s ws).tapeIn = s.tapeIn :=
  applyWrites_frame State.tapeIn (P := fun _ => True) (fun s w _ => applyWrite_tapeIn s w) s fun _ _ => trivial
@[simp] theorem applyWrites_cycles (s : State) (ws : List Write) : (applyWrites s ws).cycles = s.cycles :=
  applyWrites_frame State.cycles (P := fun _ => True) (fun s w _ => applyWrite_cycles s w) s fun _ _ => trivial

/-- What a property of states survives, buffered write by buffered write, a list of writes keeps. -/
theorem applyWrites_induct {I : State → Prop} {P : Write → Prop} (h : ∀ s w, P w → I s → I (applyWrite s w)) {s : State}
    {ws : List Write} (hw : ∀ w ∈ ws, P w) (hs : I s) : I (applyWrites s ws) := by
  induction ws generalizing s with
  | nil => exact hs
  | cons w ws ih => exact ih (fun v hv => hw v (List.mem_cons_of_mem _ hv)) (h s w (hw w List.mem_cons_self) hs)

/-! ### The execute phase, by outcome -/

/-- Everything that executing an instruction for the live sequence can do. -/
theorem finish_cases (i : Instr) (s : State) (cur : SeqId) :
    (∃ e, effectsOf i s cur = .ok e ∧ Admits i s cur e ∧ finish s cur (effectsOf i s cur) = commit s cur e) ∨
    (∃ k info, effectsOf i s cur = .error (.raise k info) ∧ AbortOf i (.raise k info) ∧
      finish s cur (effectsOf i s cur) = alarm s k cur (seqAt s cur).pc (fetchedWord s cur) info) ∨
    (i = .hlt ∧ finish s cur (effectsOf i s cur) = halt s ⟨.explicitHalt, cur, (seqAt s cur).pc, fetchedWord s cur, 0⟩) := by
  cases h : effectsOf i s cur with
  | ok e => exact .inl ⟨e, rfl, effects_admit h, rfl⟩
  | error x =>
    cases x with
    | raise k info => exact .inr (.inl ⟨k, info, rfl, effects_abort h, rfl⟩)
    | halt => exact .inr (.inr ⟨effects_abort h, rfl⟩)

/-- An instruction whose effect set has no explicit next-pc, in a state with a live sequence: its writes, and the pc advanced. -/
theorem exec_advance {i : Instr} {s : State} {cur : SeqId} {ws : List Write} (hs : select s = some cur)
    (h : effectsOf i s cur = .ok (advanceWith ws)) :
    exec i s = .next (setSeq (applyWrites s ws) cur { seqAt (applyWrites s ws) cur with pc := (seqAt s cur).pc + 1 }) := by
  rw [exec_of_live _ hs, h, finish_ok, commit_advance]

/-- An instruction with an explicit next-pc, in a state with a live sequence: its writes, and the pc there. -/
theorem exec_jump {i : Instr} {s : State} {cur : SeqId} {ws : List Write} {t : Pc} (hs : select s = some cur)
    (h : effectsOf i s cur = .ok (jumpWith ws t)) :
    exec i s = .next (setSeq (applyWrites s ws) cur { seqAt (applyWrites s ws) cur with pc := t }) := by
  rw [exec_of_live _ hs, h, finish_ok, commit_jump]

theorem effRas_status (s : State) (cur : SeqId) : effRas 0 s cur = .ok (advanceWith [.a (alarmStatus s.asr)]) := rfl
theorem effRas_word (s : State) (cur : SeqId) : effRas 1 s cur = .ok (advanceWith [.a s.asr.word]) := rfl
theorem effRas_info (s : State) (cur : SeqId) : effRas 2 s cur = .ok (advanceWith [.a s.asr.info]) := rfl
theorem effRas_illegal {k : Config6} (hk : 3 ≤ k.toNat) (s : State) (cur : SeqId) :
    effRas k s cur = .error (.raise .illegalInstruction 0) := by
  unfold effRas
  split <;> first | omega | rfl

end Sys2Proof.Laws
end

