-- ==== Sys2Proof/Laws/Encoding.lean ====
section
/-! SUPPORT. The fields of a packed word, once for all instructions (30_encoding.md R141): what the round-trip proofs cite. -/

namespace Sys2Proof.Laws

/-- The number of a packed word (R141). -/
theorem pack_toNat (c : Config6) (op : Opcode) (j : IndexId) (d : Bool) (y : AddrField) :
    (pack c op j d y).toNat = c.toNat * 2 ^ 30 + op.toNat * 2 ^ 24 + j.toNat * 2 ^ 18 + d.toNat * 2 ^ 17 + y.toNat := by
  have hc := c.isLt
  have hop := op.isLt
  have hj := j.isLt
  have hy := y.isLt
  have hd := d.toNat_lt
  simp only [pack, BitVec.toNat_ofNat]
  omega

theorem fieldC_toNat (w : Word) : (fieldC w).toNat = w.toNat / 2 ^ 30 := by
  have := w.isLt
  simp only [fieldC, BitVec.extractLsb'_toNat, Nat.shiftRight_eq_div_pow]
  omega

theorem fieldOp_toNat (w : Word) : (fieldOp w).toNat = w.toNat / 2 ^ 24 % 2 ^ 6 := by
  simp only [fieldOp, BitVec.extractLsb'_toNat, Nat.shiftRight_eq_div_pow]

theorem fieldJ_toNat (w : Word) : (fieldJ w).toNat = w.toNat / 2 ^ 18 % 2 ^ 6 := by
  simp only [fieldJ, BitVec.extractLsb'_toNat, Nat.shiftRight_eq_div_pow]

theorem fieldD_toNat (w : Word) : (fieldD w).toNat = w.toNat / 2 ^ 17 % 2 := by
  simp only [fieldD, ← BitVec.testBit_toNat, Nat.testBit_eq_decide_div_mod_eq]
  rcases Nat.mod_two_eq_zero_or_one (w.toNat / 2 ^ 17) with h | h <;> simp only [h] <;> rfl

theorem fieldY_toNat (w : Word) : (fieldY w).toNat = w.toNat % 2 ^ 17 := by
  simp only [fieldY, BitVec.extractLsb'_toNat, Nat.shiftRight_zero]

theorem bool_eq_of_toNat {a b : Bool} (h : a.toNat = b.toNat) : a = b := by
  cases a <;> cases b <;> simp_all

@[simp] theorem fieldC_pack (c : Config6) (op : Opcode) (j : IndexId) (d : Bool) (y : AddrField) : fieldC (pack c op j d y) = c := by
  apply BitVec.eq_of_toNat_eq
  rw [fieldC_toNat, pack_toNat]
  have := op.isLt
  have := j.isLt
  have := y.isLt
  have := d.toNat_lt
  omega

@[simp] theorem fieldOp_pack (c : Config6) (op : Opcode) (j : IndexId) (d : Bool) (y : AddrField) : fieldOp (pack c op j d y) = op := by
  apply BitVec.eq_of_toNat_eq
  rw [fieldOp_toNat, pack_toNat]
  have := op.isLt
  have := j.isLt
  have := y.isLt
  have := d.toNat_lt
  omega

@[simp] theorem fieldJ_pack (c : Config6) (op : Opcode) (j : IndexId) (d : Bool) (y : AddrField) : fieldJ (pack c op j d y) = j := by
  apply BitVec.eq_of_toNat_eq
  rw [fieldJ_toNat, pack_toNat]
  have := j.isLt
  have := y.isLt
  have := d.toNat_lt
  omega

@[simp] theorem fieldD_pack (c : Config6) (op : Opcode) (j : IndexId) (d : Bool) (y : AddrField) : fieldD (pack c op j d y) = d := by
  apply bool_eq_of_toNat
  rw [fieldD_toNat, pack_toNat]
  have := y.isLt
  have := d.toNat_lt
  omega

@[simp] theorem fieldY_pack (c : Config6) (op : Opcode) (j : IndexId) (d : Bool) (y : AddrField) : fieldY (pack c op j d y) = y := by
  apply BitVec.eq_of_toNat_eq
  rw [fieldY_toNat, pack_toNat]
  have := y.isLt
  omega

/-- A word is the pack of its fields (R141). -/
@[simp] theorem pack_fields (w : Word) : pack (fieldC w) (fieldOp w) (fieldJ w) (fieldD w) (fieldY w) = w := by
  apply BitVec.eq_of_toNat_eq
  rw [pack_toNat, fieldC_toNat, fieldOp_toNat, fieldJ_toNat, fieldD_toNat, fieldY_toNat]
  have := w.isLt
  omega

theorem pack_inj {c c' : Config6} {op op' : Opcode} {j j' : IndexId} {d d' : Bool} {y y' : AddrField}
    (h : pack c op j d y = pack c' op' j' d' y') : c = c' ∧ op = op' ∧ j = j' ∧ d = d' ∧ y = y' := by
  refine ⟨?_, ?_, ?_, ?_, ?_⟩
  · rw [← fieldC_pack c op j d y, h, fieldC_pack]
  · rw [← fieldOp_pack c op j d y, h, fieldOp_pack]
  · rw [← fieldJ_pack c op j d y, h, fieldJ_pack]
  · rw [← fieldD_pack c op j d y, h, fieldD_pack]
  · rw [← fieldY_pack c op j d y, h, fieldY_pack]

/-- The decoder on a word whose opcode has a class and whose must-be-zero fields are zero. -/
theorem decode_of_class {w : Word} {cls : OperandClass} (hc : opcodeClass (fieldOp w) = some cls)
    (hz : mbzZero cls (fieldC w) (fieldJ w) (fieldD w) (fieldY w) = true) :
    decode w = decodeOpcode (fieldOp w) (fieldC w) (fieldJ w) (fieldD w) (fieldY w) := by
  unfold decode
  rw [hc]
  exact if_pos hz

/-- The decoder on packed fields whose opcode has a class and whose must-be-zero fields are zero. -/
theorem decode_pack {c : Config6} {op : Opcode} {j : IndexId} {d : Bool} {y : AddrField} {cls : OperandClass}
    (hc : opcodeClass op = some cls) (hz : mbzZero cls c j d y = true) : decode (pack c op j d y) = decodeOpcode op c j d y := by
  have h := decode_of_class (w := pack c op j d y) (cls := cls) (by rw [fieldOp_pack]; exact hc)
    (by rw [fieldC_pack, fieldJ_pack, fieldD_pack, fieldY_pack]; exact hz)
  rw [fieldC_pack, fieldOp_pack, fieldJ_pack, fieldD_pack, fieldY_pack] at h
  exact h

end Sys2Proof.Laws
end

