-- ==== Sys2Proof/Laws/Memory.lean ====
section
/-! SUPPORT. Memory (20_memory.md): a write is read back at its address and nowhere else, every memory operation keeps the canonical form,
and it lists no address but the one it writes. -/

namespace Sys2Proof.Laws
open Sys2Proof.Machine

/-- A bound below which no address of a canonical tail lies. -/
def above (lo : Option Nat) (k : Nat) : Bool :=
  match lo with
  | none => true
  | some l => l < k

theorem wfFrom_cons {lo : Option Nat} {k : Nat} {v : Word} {m : Memory} :
    Memory.wfFrom lo ((k, v) :: m) = true ↔ above lo k = true ∧ v ≠ 0#36 ∧ Memory.wfFrom (some k) m = true := by
  cases lo <;> simp [Memory.wfFrom, above, and_assoc]

theorem above_mono {lo : Option Nat} {a b : Nat} (h : above lo a = true) (hab : a ≤ b) : above lo b = true := by
  cases lo with
  | none => rfl
  | some l => simp only [above, decide_eq_true_eq] at h ⊢; omega

theorem wfFrom_weaken {lo lo' : Option Nat} {m : Memory} (hm : Memory.wfFrom lo m = true)
    (h : ∀ k, above lo k = true → above lo' k = true) : Memory.wfFrom lo' m = true := by
  cases m with
  | nil => rfl
  | cons c rest =>
    obtain ⟨k, v⟩ := c
    rw [wfFrom_cons] at hm ⊢
    exact ⟨h k hm.1, hm.2⟩

/-- An address that a canonical list's bound excludes reads 0. -/
theorem read_below {m : Memory} {l addr : Nat} (hm : Memory.wfFrom (some l) m = true) (h : addr ≤ l) : m.read addr = 0#36 := by
  induction m generalizing l with
  | nil => rfl
  | cons c rest ih =>
    obtain ⟨k, v⟩ := c
    rw [wfFrom_cons] at hm
    have hk : l < k := by simpa [above] using hm.1
    have hne : addr ≠ k := by omega
    simp only [Memory.read, if_neg hne]
    exact ih hm.2.2 (by omega)

/-- A write away from an address does not change what it reads. -/
theorem read_write_ne (m : Memory) {addr b : Nat} (v : Word) (h : b ≠ addr) : (m.write addr v).read b = m.read b := by
  induction m with
  | nil => by_cases hv : v = 0#36 <;> simp [Memory.write, Memory.read, hv, h]
  | cons c rest ih =>
    obtain ⟨k, w⟩ := c
    simp only [Memory.write]
    split
    · split <;> simp [Memory.read, h]
    · split
      · rename_i hk
        subst hk
        split <;> simp [Memory.read, h]
      · simp only [Memory.read, ih]

/-- A write is read back (canonical memory). -/
theorem read_write_self {lo : Option Nat} {m : Memory} (hm : Memory.wfFrom lo m = true) (addr : Nat) (v : Word) :
    (m.write addr v).read addr = v := by
  induction m generalizing lo with
  | nil => by_cases hv : v = 0#36 <;> simp [Memory.write, Memory.read, hv]
  | cons c rest ih =>
    obtain ⟨k, w⟩ := c
    have hc := wfFrom_cons.mp hm
    simp only [Memory.write]
    split
    · rename_i hlt
      split
      · rename_i hv
        have hne : addr ≠ k := by omega
        simp only [Memory.read, if_neg hne, hv]
        exact read_below hc.2.2 (by omega)
      · simp [Memory.read]
    · split
      · rename_i hk
        subst hk
        split
        · rename_i hv
          rw [hv]
          exact read_below hc.2.2 (Nat.le_refl _)
        · simp [Memory.read]
      · rename_i hk
        simp only [Memory.read, if_neg hk]
        exact ih hc.2.2

theorem read_write {m : Memory} (hm : m.wf = true) (addr : Nat) (v : Word) (b : Nat) :
    (m.write addr v).read b = if b = addr then v else m.read b := by
  by_cases h : b = addr
  · subst h; rw [if_pos rfl]; exact read_write_self hm b v
  · rw [if_neg h]; exact read_write_ne m v h

theorem wfFrom_write {lo : Option Nat} {m : Memory} (hm : Memory.wfFrom lo m = true) {addr : Nat} (v : Word) (ha : above lo addr = true) :
    Memory.wfFrom lo (m.write addr v) = true := by
  induction m generalizing lo with
  | nil =>
    by_cases hv : v = 0#36
    · simp [Memory.write, hv, Memory.wfFrom]
    · rw [Memory.write, if_neg hv, wfFrom_cons]
      exact ⟨ha, hv, rfl⟩
  | cons c rest ih =>
    obtain ⟨k, w⟩ := c
    have hc := wfFrom_cons.mp hm
    simp only [Memory.write]
    split
    · rename_i hlt
      split
      · exact hm
      · rename_i hv
        rw [wfFrom_cons, wfFrom_cons]
        exact ⟨ha, hv, by simpa [above] using hlt, hc.2⟩
    · split
      · rename_i hk
        subst hk
        split
        · exact wfFrom_weaken hc.2.2 fun b hb => above_mono ha (by simp only [above, decide_eq_true_eq] at hb; omega)
        · rename_i hv
          rw [wfFrom_cons]
          exact ⟨ha, hv, hc.2.2⟩
      · rw [wfFrom_cons]
        exact ⟨hc.1, hc.2.1, ih hc.2.2 (by simp only [above, decide_eq_true_eq]; omega)⟩

/-- A write keeps the canonical form. -/
theorem wf_write {m : Memory} (hm : m.wf = true) (addr : Nat) (v : Word) : (m.write addr v).wf = true :=
  wfFrom_write hm v rfl

/-- A load keeps the canonical form. -/
theorem wf_load {m : Memory} (hm : m.wf = true) (base : Nat) (ws : List Word) : (m.load base ws).wf = true := by
  induction ws generalizing m base with
  | nil => exact hm
  | cons w ws ih => exact ih (wf_write hm base w) (base + 1)

@[simp] theorem wf_nil : Memory.wf [] = true := rfl

/-- A write lists no address but its own. -/
theorem mem_write {m : Memory} {addr : Nat} {v : Word} {cell : Nat × Word} (h : cell ∈ m.write addr v) : cell ∈ m ∨ cell.1 = addr := by
  induction m with
  | nil =>
    simp only [Memory.write] at h
    split at h
    · simp at h
    · simp only [List.mem_singleton] at h; exact .inr (by rw [h])
  | cons c rest ih =>
    obtain ⟨k, w⟩ := c
    simp only [Memory.write] at h
    split at h
    · split at h
      · exact .inl h
      · rcases List.mem_cons.mp h with h | h
        · exact .inr (by rw [h])
        · exact .inl h
    · split at h
      · split at h
        · exact .inl (List.mem_cons_of_mem _ h)
        · rcases List.mem_cons.mp h with h | h
          · exact .inr (by rw [h])
          · exact .inl (List.mem_cons_of_mem _ h)
      · rcases List.mem_cons.mp h with h | h
        · exact .inl (by rw [h]; exact List.mem_cons_self)
        · exact (ih h).imp (List.mem_cons_of_mem _) id

/-- A load lists no address outside the block it loads. -/
theorem mem_load {m : Memory} {base : Nat} {ws : List Word} {cell : Nat × Word} (h : cell ∈ m.load base ws) :
    cell ∈ m ∨ (base ≤ cell.1 ∧ cell.1 < base + ws.length) := by
  induction ws generalizing m base with
  | nil => exact .inl h
  | cons w ws ih =>
    rcases ih h with h | h
    · rcases mem_write h with h | h
      · exact .inl h
      · exact .inr (by simp only [List.length_cons]; omega)
    · exact .inr (by simp only [List.length_cons]; omega)

/-- What memory reads after a load: the loaded block, and elsewhere what it read before (R107). -/
theorem read_load {m : Memory} (hm : m.wf = true) (base : Nat) (ws : List Word) (addr : Nat) :
    (m.load base ws).read addr = if base ≤ addr ∧ addr < base + ws.length then ws.getD (addr - base) 0 else m.read addr := by
  induction ws generalizing m base with
  | nil =>
    rw [if_neg (by simp only [List.length_nil]; omega)]
    rfl
  | cons w ws ih =>
    have := ih (wf_write hm base w) (base + 1)
    simp only [Memory.load, this, List.length_cons]
    by_cases h0 : addr = base
    · subst h0
      rw [if_neg (by omega), if_pos (by omega), read_write_self hm]
      simp
    · by_cases h1 : base + 1 ≤ addr ∧ addr < base + 1 + ws.length
      · rw [if_pos h1, if_pos (by omega)]
        rw [show addr - base = (addr - (base + 1)) + 1 by omega]
        simp
      · rw [if_neg h1, if_neg (by omega), read_write_ne m w h0]

@[simp] theorem read_nil (addr : Nat) : Memory.read [] addr = 0#36 := rfl

end Sys2Proof.Laws
end

