-- ==== Sys2Proof/Laws/PerInstr.lean ====
section
/-! SUPPORT. A statement made per instruction: its word encodes its row of the opcode table (30_encoding.md R147), one lemma per
constructor. -/

namespace Sys2Proof.Laws

/-- The word of a well-formed instruction encodes the row of spec/opcode_table.json with its mnemonic (R147). -/
def EncodesTableRow.Statement (i : Instr) : Prop :=
  i.wellFormed = true → ∃ r ∈ opcodeTable, r.mnemonic = mnemonic i ∧ r.encodes (encode i) = true

/-- Words agree where their fields agree (R141). -/
theorem eq_of_fields {v w : Word} (hc : fieldC v = fieldC w) (ho : fieldOp v = fieldOp w) (hj : fieldJ v = fieldJ w)
    (hd : fieldD v = fieldD w) (hy : fieldY v = fieldY w) : v = w := by
  rw [← pack_fields v, ← pack_fields w, hc, ho, hj, hd, hy]

/-- Masking acts field by field. -/
theorem pack_and (c c' : Config6) (op op' : Opcode) (j j' : IndexId) (d d' : Bool) (y y' : AddrField) :
    pack c op j d y &&& pack c' op' j' d' y' = pack (c &&& c') (op &&& op') (j &&& j') (d && d') (y &&& y') := by
  have hC (v w : Word) : fieldC (v &&& w) = fieldC v &&& fieldC w := BitVec.extractLsb'_and
  have hO (v w : Word) : fieldOp (v &&& w) = fieldOp v &&& fieldOp w := BitVec.extractLsb'_and
  have hJ (v w : Word) : fieldJ (v &&& w) = fieldJ v &&& fieldJ w := BitVec.extractLsb'_and
  have hD (v w : Word) : fieldD (v &&& w) = (fieldD v && fieldD w) := BitVec.getLsbD_and
  have hY (v w : Word) : fieldY (v &&& w) = fieldY v &&& fieldY w := BitVec.extractLsb'_and
  apply eq_of_fields
  · rw [hC, fieldC_pack, fieldC_pack, fieldC_pack]
  · rw [hO, fieldOp_pack, fieldOp_pack, fieldOp_pack]
  · rw [hJ, fieldJ_pack, fieldJ_pack, fieldJ_pack]
  · rw [hD, fieldD_pack, fieldD_pack, fieldD_pack]
  · rw [hY, fieldY_pack, fieldY_pack, fieldY_pack]

/-- A packed word encodes a row whose mask and match are packed from agreeing fields. -/
theorem encodes_pack {r : OpcodeRow} {c mc pc : Config6} {op mo po : Opcode} {j mj pj : IndexId} {d md pd : Bool} {y my py : AddrField}
    (hm : r.mask = pack mc mo mj md my) (hp : r.pattern = pack pc po pj pd py)
    (hf : c &&& mc = pc ∧ op &&& mo = po ∧ j &&& mj = pj ∧ (d && md) = pd ∧ y &&& my = py)
    (hk : ∀ k, r.maxC = some k → c.toNat ≤ k) : r.encodes (pack c op j d y) = true := by
  obtain ⟨h1, h2, h3, h4, h5⟩ := hf
  have hw : pack c op j d y &&& r.mask = r.pattern := by rw [hm, hp, pack_and, h1, h2, h3, h4, h5]
  unfold OpcodeRow.encodes
  rw [hw, beq_self_eq_true, Bool.true_and, fieldC_pack]
  cases hx : r.maxC with
  | none => rfl
  | some k => simpa using hk k hx

theorem and_none6 (v : BitVec 6) : v &&& 0 = 0 := BitVec.and_zero
theorem and_none17 (v : AddrField) : v &&& 0 = 0 := BitVec.and_zero

theorem EncodesTableRow.nop : EncodesTableRow.Statement (.nop) := fun _ =>
  ⟨_, List.mem_of_getElem? (i := 0) rfl, rfl, encodes_pack (mc := 63) (mo := 63) (mj := 63) (md := true) (my := 131071)
    (pc := 0) (po := 1) (pj := 0) (pd := false) (py := 0) (by decide) (by decide)
    ⟨rfl, rfl, rfl, rfl, rfl⟩ (fun _ e => by cases e)⟩

theorem EncodesTableRow.cla : EncodesTableRow.Statement (.cla) := fun _ =>
  ⟨_, List.mem_of_getElem? (i := 1) rfl, rfl, encodes_pack (mc := 63) (mo := 63) (mj := 63) (md := true) (my := 131071)
    (pc := 1) (po := 1) (pj := 0) (pd := false) (py := 0) (by decide) (by decide)
    ⟨rfl, rfl, rfl, rfl, rfl⟩ (fun _ e => by cases e)⟩

theorem EncodesTableRow.com : EncodesTableRow.Statement (.com) := fun _ =>
  ⟨_, List.mem_of_getElem? (i := 2) rfl, rfl, encodes_pack (mc := 63) (mo := 63) (mj := 63) (md := true) (my := 131071)
    (pc := 2) (po := 1) (pj := 0) (pd := false) (py := 0) (by decide) (by decide)
    ⟨rfl, rfl, rfl, rfl, rfl⟩ (fun _ e => by cases e)⟩

theorem EncodesTableRow.neg : EncodesTableRow.Statement (.neg) := fun _ =>
  ⟨_, List.mem_of_getElem? (i := 3) rfl, rfl, encodes_pack (mc := 63) (mo := 63) (mj := 63) (md := true) (my := 131071)
    (pc := 3) (po := 1) (pj := 0) (pd := false) (py := 0) (by decide) (by decide)
    ⟨rfl, rfl, rfl, rfl, rfl⟩ (fun _ e => by cases e)⟩

theorem EncodesTableRow.xab : EncodesTableRow.Statement (.xab) := fun _ =>
  ⟨_, List.mem_of_getElem? (i := 4) rfl, rfl, encodes_pack (mc := 63) (mo := 63) (mj := 63) (md := true) (my := 131071)
    (pc := 4) (po := 1) (pj := 0) (pd := false) (py := 0) (by decide) (by decide)
    ⟨rfl, rfl, rfl, rfl, rfl⟩ (fun _ e => by cases e)⟩

theorem EncodesTableRow.tab : EncodesTableRow.Statement (.tab) := fun _ =>
  ⟨_, List.mem_of_getElem? (i := 5) rfl, rfl, encodes_pack (mc := 63) (mo := 63) (mj := 63) (md := true) (my := 131071)
    (pc := 5) (po := 1) (pj := 0) (pd := false) (py := 0) (by decide) (by decide)
    ⟨rfl, rfl, rfl, rfl, rfl⟩ (fun _ e => by cases e)⟩

theorem EncodesTableRow.tba : EncodesTableRow.Statement (.tba) := fun _ =>
  ⟨_, List.mem_of_getElem? (i := 6) rfl, rfl, encodes_pack (mc := 63) (mo := 63) (mj := 63) (md := true) (my := 131071)
    (pc := 6) (po := 1) (pj := 0) (pd := false) (py := 0) (by decide) (by decide)
    ⟨rfl, rfl, rfl, rfl, rfl⟩ (fun _ e => by cases e)⟩

theorem EncodesTableRow.clc : EncodesTableRow.Statement (.clc) := fun _ =>
  ⟨_, List.mem_of_getElem? (i := 7) rfl, rfl, encodes_pack (mc := 63) (mo := 63) (mj := 63) (md := true) (my := 131071)
    (pc := 7) (po := 1) (pj := 0) (pd := false) (py := 0) (by decide) (by decide)
    ⟨rfl, rfl, rfl, rfl, rfl⟩ (fun _ e => by cases e)⟩

theorem EncodesTableRow.sec : EncodesTableRow.Statement (.sec) := fun _ =>
  ⟨_, List.mem_of_getElem? (i := 8) rfl, rfl, encodes_pack (mc := 63) (mo := 63) (mj := 63) (md := true) (my := 131071)
    (pc := 8) (po := 1) (pj := 0) (pd := false) (py := 0) (by decide) (by decide)
    ⟨rfl, rfl, rfl, rfl, rfl⟩ (fun _ e => by cases e)⟩

theorem EncodesTableRow.clo : EncodesTableRow.Statement (.clo) := fun _ =>
  ⟨_, List.mem_of_getElem? (i := 9) rfl, rfl, encodes_pack (mc := 63) (mo := 63) (mj := 63) (md := true) (my := 131071)
    (pc := 9) (po := 1) (pj := 0) (pd := false) (py := 0) (by decide) (by decide)
    ⟨rfl, rfl, rfl, rfl, rfl⟩ (fun _ e => by cases e)⟩

theorem EncodesTableRow.rsi : EncodesTableRow.Statement (.rsi) := fun _ =>
  ⟨_, List.mem_of_getElem? (i := 10) rfl, rfl, encodes_pack (mc := 63) (mo := 63) (mj := 63) (md := true) (my := 131071)
    (pc := 10) (po := 1) (pj := 0) (pd := false) (py := 0) (by decide) (by decide)
    ⟨rfl, rfl, rfl, rfl, rfl⟩ (fun _ e => by cases e)⟩

theorem EncodesTableRow.dis : EncodesTableRow.Statement (.dis) := fun _ =>
  ⟨_, List.mem_of_getElem? (i := 11) rfl, rfl, encodes_pack (mc := 63) (mo := 63) (mj := 63) (md := true) (my := 131071)
    (pc := 11) (po := 1) (pj := 0) (pd := false) (py := 0) (by decide) (by decide)
    ⟨rfl, rfl, rfl, rfl, rfl⟩ (fun _ e => by cases e)⟩

theorem EncodesTableRow.ack : EncodesTableRow.Statement (.ack) := fun _ =>
  ⟨_, List.mem_of_getElem? (i := 12) rfl, rfl, encodes_pack (mc := 63) (mo := 63) (mj := 63) (md := true) (my := 131071)
    (pc := 12) (po := 1) (pj := 0) (pd := false) (py := 0) (by decide) (by decide)
    ⟨rfl, rfl, rfl, rfl, rfl⟩ (fun _ e => by cases e)⟩

theorem EncodesTableRow.pch : EncodesTableRow.Statement (.pch) := fun _ =>
  ⟨_, List.mem_of_getElem? (i := 13) rfl, rfl, encodes_pack (mc := 63) (mo := 63) (mj := 63) (md := true) (my := 131071)
    (pc := 13) (po := 1) (pj := 0) (pd := false) (py := 0) (by decide) (by decide)
    ⟨rfl, rfl, rfl, rfl, rfl⟩ (fun _ e => by cases e)⟩

theorem EncodesTableRow.hlt : EncodesTableRow.Statement (.hlt) := fun _ =>
  ⟨_, List.mem_of_getElem? (i := 14) rfl, rfl, encodes_pack (mc := 63) (mo := 63) (mj := 63) (md := true) (my := 131071)
    (pc := 14) (po := 1) (pj := 0) (pd := false) (py := 0) (by decide) (by decide)
    ⟨rfl, rfl, rfl, rfl, rfl⟩ (fun _ e => by cases e)⟩

theorem EncodesTableRow.shl (n : Config6) : EncodesTableRow.Statement (.shl n) := fun _ =>
  ⟨_, List.mem_of_getElem? (i := 15) rfl, rfl, encodes_pack (mc := 0) (mo := 63) (mj := 63) (md := true) (my := 131071)
    (pc := 0) (po := 2) (pj := 0) (pd := false) (py := 0) (by decide) (by decide)
    ⟨and_none6 n, rfl, rfl, rfl, rfl⟩ (fun _ e => by cases e)⟩

theorem EncodesTableRow.shr (n : Config6) : EncodesTableRow.Statement (.shr n) := fun _ =>
  ⟨_, List.mem_of_getElem? (i := 16) rfl, rfl, encodes_pack (mc := 0) (mo := 63) (mj := 63) (md := true) (my := 131071)
    (pc := 0) (po := 3) (pj := 0) (pd := false) (py := 0) (by decide) (by decide)
    ⟨and_none6 n, rfl, rfl, rfl, rfl⟩ (fun _ e => by cases e)⟩

theorem EncodesTableRow.sar (n : Config6) : EncodesTableRow.Statement (.sar n) := fun _ =>
  ⟨_, List.mem_of_getElem? (i := 17) rfl, rfl, encodes_pack (mc := 0) (mo := 63) (mj := 63) (md := true) (my := 131071)
    (pc := 0) (po := 4) (pj := 0) (pd := false) (py := 0) (by decide) (by decide)
    ⟨and_none6 n, rfl, rfl, rfl, rfl⟩ (fun _ e => by cases e)⟩

theorem EncodesTableRow.rol (n : Config6) : EncodesTableRow.Statement (.rol n) := fun _ =>
  ⟨_, List.mem_of_getElem? (i := 18) rfl, rfl, encodes_pack (mc := 0) (mo := 63) (mj := 63) (md := true) (my := 131071)
    (pc := 0) (po := 5) (pj := 0) (pd := false) (py := 0) (by decide) (by decide)
    ⟨and_none6 n, rfl, rfl, rfl, rfl⟩ (fun _ e => by cases e)⟩

theorem EncodesTableRow.ror (n : Config6) : EncodesTableRow.Statement (.ror n) := fun _ =>
  ⟨_, List.mem_of_getElem? (i := 19) rfl, rfl, encodes_pack (mc := 0) (mo := 63) (mj := 63) (md := true) (my := 131071)
    (pc := 0) (po := 6) (pj := 0) (pd := false) (py := 0) (by decide) (by decide)
    ⟨and_none6 n, rfl, rfl, rfl, rfl⟩ (fun _ e => by cases e)⟩

theorem EncodesTableRow.lda (j : IndexId) (d : Bool) (y : AddrField) : EncodesTableRow.Statement (.lda j d y) := fun _ =>
  ⟨_, List.mem_of_getElem? (i := 20) rfl, rfl, encodes_pack (mc := 63) (mo := 63) (mj := 0) (md := false) (my := 0)
    (pc := 0) (po := 8) (pj := 0) (pd := false) (py := 0) (by decide) (by decide)
    ⟨rfl, rfl, and_none6 j, Bool.and_false d, and_none17 y⟩ (fun _ e => by cases e)⟩

theorem EncodesTableRow.ldb (j : IndexId) (d : Bool) (y : AddrField) : EncodesTableRow.Statement (.ldb j d y) := fun _ =>
  ⟨_, List.mem_of_getElem? (i := 21) rfl, rfl, encodes_pack (mc := 63) (mo := 63) (mj := 0) (md := false) (my := 0)
    (pc := 0) (po := 9) (pj := 0) (pd := false) (py := 0) (by decide) (by decide)
    ⟨rfl, rfl, and_none6 j, Bool.and_false d, and_none17 y⟩ (fun _ e => by cases e)⟩

theorem EncodesTableRow.sta (j : IndexId) (d : Bool) (y : AddrField) : EncodesTableRow.Statement (.sta j d y) := fun _ =>
  ⟨_, List.mem_of_getElem? (i := 22) rfl, rfl, encodes_pack (mc := 63) (mo := 63) (mj := 0) (md := false) (my := 0)
    (pc := 0) (po := 10) (pj := 0) (pd := false) (py := 0) (by decide) (by decide)
    ⟨rfl, rfl, and_none6 j, Bool.and_false d, and_none17 y⟩ (fun _ e => by cases e)⟩

theorem EncodesTableRow.stb (j : IndexId) (d : Bool) (y : AddrField) : EncodesTableRow.Statement (.stb j d y) := fun _ =>
  ⟨_, List.mem_of_getElem? (i := 23) rfl, rfl, encodes_pack (mc := 63) (mo := 63) (mj := 0) (md := false) (my := 0)
    (pc := 0) (po := 11) (pj := 0) (pd := false) (py := 0) (by decide) (by decide)
    ⟨rfl, rfl, and_none6 j, Bool.and_false d, and_none17 y⟩ (fun _ e => by cases e)⟩

theorem EncodesTableRow.stz (j : IndexId) (d : Bool) (y : AddrField) : EncodesTableRow.Statement (.stz j d y) := fun _ =>
  ⟨_, List.mem_of_getElem? (i := 24) rfl, rfl, encodes_pack (mc := 63) (mo := 63) (mj := 0) (md := false) (my := 0)
    (pc := 0) (po := 12) (pj := 0) (pd := false) (py := 0) (by decide) (by decide)
    ⟨rfl, rfl, and_none6 j, Bool.and_false d, and_none17 y⟩ (fun _ e => by cases e)⟩

theorem EncodesTableRow.lia (j : IndexId) (y : AddrField) : EncodesTableRow.Statement (.lia j y) := fun _ =>
  ⟨_, List.mem_of_getElem? (i := 25) rfl, rfl, encodes_pack (mc := 63) (mo := 63) (mj := 0) (md := true) (my := 0)
    (pc := 0) (po := 13) (pj := 0) (pd := false) (py := 0) (by decide) (by decide)
    ⟨rfl, rfl, and_none6 j, rfl, and_none17 y⟩ (fun _ e => by cases e)⟩

theorem EncodesTableRow.lib (j : IndexId) (y : AddrField) : EncodesTableRow.Statement (.lib j y) := fun _ =>
  ⟨_, List.mem_of_getElem? (i := 26) rfl, rfl, encodes_pack (mc := 63) (mo := 63) (mj := 0) (md := true) (my := 0)
    (pc := 0) (po := 14) (pj := 0) (pd := false) (py := 0) (by decide) (by decide)
    ⟨rfl, rfl, and_none6 j, rfl, and_none17 y⟩ (fun _ e => by cases e)⟩

theorem EncodesTableRow.ldx (j : IndexId) (d : Bool) (y : AddrField) : EncodesTableRow.Statement (.ldx j d y) := fun _ =>
  ⟨_, List.mem_of_getElem? (i := 27) rfl, rfl, encodes_pack (mc := 63) (mo := 63) (mj := 0) (md := false) (my := 0)
    (pc := 0) (po := 16) (pj := 0) (pd := false) (py := 0) (by decide) (by decide)
    ⟨rfl, rfl, and_none6 j, Bool.and_false d, and_none17 y⟩ (fun _ e => by cases e)⟩

theorem EncodesTableRow.stx (j : IndexId) (d : Bool) (y : AddrField) : EncodesTableRow.Statement (.stx j d y) := fun _ =>
  ⟨_, List.mem_of_getElem? (i := 28) rfl, rfl, encodes_pack (mc := 63) (mo := 63) (mj := 0) (md := false) (my := 0)
    (pc := 0) (po := 17) (pj := 0) (pd := false) (py := 0) (by decide) (by decide)
    ⟨rfl, rfl, and_none6 j, Bool.and_false d, and_none17 y⟩ (fun _ e => by cases e)⟩

theorem EncodesTableRow.lix (j : IndexId) (y : AddrField) : EncodesTableRow.Statement (.lix j y) := fun _ =>
  ⟨_, List.mem_of_getElem? (i := 29) rfl, rfl, encodes_pack (mc := 63) (mo := 63) (mj := 0) (md := true) (my := 0)
    (pc := 0) (po := 18) (pj := 0) (pd := false) (py := 0) (by decide) (by decide)
    ⟨rfl, rfl, and_none6 j, rfl, and_none17 y⟩ (fun _ e => by cases e)⟩

theorem EncodesTableRow.adx (j : IndexId) (y : AddrField) : EncodesTableRow.Statement (.adx j y) := fun _ =>
  ⟨_, List.mem_of_getElem? (i := 30) rfl, rfl, encodes_pack (mc := 63) (mo := 63) (mj := 0) (md := true) (my := 0)
    (pc := 0) (po := 19) (pj := 0) (pd := false) (py := 0) (by decide) (by decide)
    ⟨rfl, rfl, and_none6 j, rfl, and_none17 y⟩ (fun _ e => by cases e)⟩

theorem EncodesTableRow.txa (j : IndexId) : EncodesTableRow.Statement (.txa j) := fun _ =>
  ⟨_, List.mem_of_getElem? (i := 31) rfl, rfl, encodes_pack (mc := 63) (mo := 63) (mj := 0) (md := true) (my := 131071)
    (pc := 0) (po := 20) (pj := 0) (pd := false) (py := 0) (by decide) (by decide)
    ⟨rfl, rfl, and_none6 j, rfl, rfl⟩ (fun _ e => by cases e)⟩

theorem EncodesTableRow.tax (j : IndexId) : EncodesTableRow.Statement (.tax j) := fun _ =>
  ⟨_, List.mem_of_getElem? (i := 32) rfl, rfl, encodes_pack (mc := 63) (mo := 63) (mj := 0) (md := true) (my := 131071)
    (pc := 0) (po := 21) (pj := 0) (pd := false) (py := 0) (by decide) (by decide)
    ⟨rfl, rfl, and_none6 j, rfl, rfl⟩ (fun _ e => by cases e)⟩

theorem EncodesTableRow.djp (j : IndexId) (d : Bool) (y : AddrField) : EncodesTableRow.Statement (.djp j d y) := fun _ =>
  ⟨_, List.mem_of_getElem? (i := 33) rfl, rfl, encodes_pack (mc := 63) (mo := 63) (mj := 0) (md := false) (my := 0)
    (pc := 0) (po := 22) (pj := 0) (pd := false) (py := 0) (by decide) (by decide)
    ⟨rfl, rfl, and_none6 j, Bool.and_false d, and_none17 y⟩ (fun _ e => by cases e)⟩

theorem EncodesTableRow.jmp (j : IndexId) (d : Bool) (y : AddrField) : EncodesTableRow.Statement (.jmp j d y) := fun _ =>
  ⟨_, List.mem_of_getElem? (i := 34) rfl, rfl, encodes_pack (mc := 63) (mo := 63) (mj := 0) (md := false) (my := 0)
    (pc := 0) (po := 24) (pj := 0) (pd := false) (py := 0) (by decide) (by decide)
    ⟨rfl, rfl, and_none6 j, Bool.and_false d, and_none17 y⟩ (fun _ e => by cases e)⟩

theorem EncodesTableRow.jaz (j : IndexId) (d : Bool) (y : AddrField) : EncodesTableRow.Statement (.jaz j d y) := fun _ =>
  ⟨_, List.mem_of_getElem? (i := 35) rfl, rfl, encodes_pack (mc := 63) (mo := 63) (mj := 0) (md := false) (my := 0)
    (pc := 0) (po := 25) (pj := 0) (pd := false) (py := 0) (by decide) (by decide)
    ⟨rfl, rfl, and_none6 j, Bool.and_false d, and_none17 y⟩ (fun _ e => by cases e)⟩

theorem EncodesTableRow.jnz (j : IndexId) (d : Bool) (y : AddrField) : EncodesTableRow.Statement (.jnz j d y) := fun _ =>
  ⟨_, List.mem_of_getElem? (i := 36) rfl, rfl, encodes_pack (mc := 63) (mo := 63) (mj := 0) (md := false) (my := 0)
    (pc := 0) (po := 26) (pj := 0) (pd := false) (py := 0) (by decide) (by decide)
    ⟨rfl, rfl, and_none6 j, Bool.and_false d, and_none17 y⟩ (fun _ e => by cases e)⟩

theorem EncodesTableRow.jan (j : IndexId) (d : Bool) (y : AddrField) : EncodesTableRow.Statement (.jan j d y) := fun _ =>
  ⟨_, List.mem_of_getElem? (i := 37) rfl, rfl, encodes_pack (mc := 63) (mo := 63) (mj := 0) (md := false) (my := 0)
    (pc := 0) (po := 27) (pj := 0) (pd := false) (py := 0) (by decide) (by decide)
    ⟨rfl, rfl, and_none6 j, Bool.and_false d, and_none17 y⟩ (fun _ e => by cases e)⟩

theorem EncodesTableRow.jap (j : IndexId) (d : Bool) (y : AddrField) : EncodesTableRow.Statement (.jap j d y) := fun _ =>
  ⟨_, List.mem_of_getElem? (i := 38) rfl, rfl, encodes_pack (mc := 63) (mo := 63) (mj := 0) (md := false) (my := 0)
    (pc := 0) (po := 28) (pj := 0) (pd := false) (py := 0) (by decide) (by decide)
    ⟨rfl, rfl, and_none6 j, Bool.and_false d, and_none17 y⟩ (fun _ e => by cases e)⟩

theorem EncodesTableRow.jov (j : IndexId) (d : Bool) (y : AddrField) : EncodesTableRow.Statement (.jov j d y) := fun _ =>
  ⟨_, List.mem_of_getElem? (i := 39) rfl, rfl, encodes_pack (mc := 63) (mo := 63) (mj := 0) (md := false) (my := 0)
    (pc := 0) (po := 29) (pj := 0) (pd := false) (py := 0) (by decide) (by decide)
    ⟨rfl, rfl, and_none6 j, Bool.and_false d, and_none17 y⟩ (fun _ e => by cases e)⟩

theorem EncodesTableRow.jcy (j : IndexId) (d : Bool) (y : AddrField) : EncodesTableRow.Statement (.jcy j d y) := fun _ =>
  ⟨_, List.mem_of_getElem? (i := 40) rfl, rfl, encodes_pack (mc := 63) (mo := 63) (mj := 0) (md := false) (my := 0)
    (pc := 0) (po := 30) (pj := 0) (pd := false) (py := 0) (by decide) (by decide)
    ⟨rfl, rfl, and_none6 j, Bool.and_false d, and_none17 y⟩ (fun _ e => by cases e)⟩

theorem EncodesTableRow.jsx (j : IndexId) (d : Bool) (y : AddrField) : EncodesTableRow.Statement (.jsx j d y) := fun _ =>
  ⟨_, List.mem_of_getElem? (i := 41) rfl, rfl, encodes_pack (mc := 63) (mo := 63) (mj := 0) (md := false) (my := 0)
    (pc := 0) (po := 31) (pj := 0) (pd := false) (py := 0) (by decide) (by decide)
    ⟨rfl, rfl, and_none6 j, Bool.and_false d, and_none17 y⟩ (fun _ e => by cases e)⟩

theorem EncodesTableRow.add (j : IndexId) (d : Bool) (y : AddrField) : EncodesTableRow.Statement (.add j d y) := fun _ =>
  ⟨_, List.mem_of_getElem? (i := 42) rfl, rfl, encodes_pack (mc := 63) (mo := 63) (mj := 0) (md := false) (my := 0)
    (pc := 0) (po := 32) (pj := 0) (pd := false) (py := 0) (by decide) (by decide)
    ⟨rfl, rfl, and_none6 j, Bool.and_false d, and_none17 y⟩ (fun _ e => by cases e)⟩

theorem EncodesTableRow.sub (j : IndexId) (d : Bool) (y : AddrField) : EncodesTableRow.Statement (.sub j d y) := fun _ =>
  ⟨_, List.mem_of_getElem? (i := 43) rfl, rfl, encodes_pack (mc := 63) (mo := 63) (mj := 0) (md := false) (my := 0)
    (pc := 0) (po := 33) (pj := 0) (pd := false) (py := 0) (by decide) (by decide)
    ⟨rfl, rfl, and_none6 j, Bool.and_false d, and_none17 y⟩ (fun _ e => by cases e)⟩

theorem EncodesTableRow.adc (j : IndexId) (d : Bool) (y : AddrField) : EncodesTableRow.Statement (.adc j d y) := fun _ =>
  ⟨_, List.mem_of_getElem? (i := 44) rfl, rfl, encodes_pack (mc := 63) (mo := 63) (mj := 0) (md := false) (my := 0)
    (pc := 0) (po := 34) (pj := 0) (pd := false) (py := 0) (by decide) (by decide)
    ⟨rfl, rfl, and_none6 j, Bool.and_false d, and_none17 y⟩ (fun _ e => by cases e)⟩

theorem EncodesTableRow.sbc (j : IndexId) (d : Bool) (y : AddrField) : EncodesTableRow.Statement (.sbc j d y) := fun _ =>
  ⟨_, List.mem_of_getElem? (i := 45) rfl, rfl, encodes_pack (mc := 63) (mo := 63) (mj := 0) (md := false) (my := 0)
    (pc := 0) (po := 35) (pj := 0) (pd := false) (py := 0) (by decide) (by decide)
    ⟨rfl, rfl, and_none6 j, Bool.and_false d, and_none17 y⟩ (fun _ e => by cases e)⟩

theorem EncodesTableRow.adv (j : IndexId) (d : Bool) (y : AddrField) : EncodesTableRow.Statement (.adv j d y) := fun _ =>
  ⟨_, List.mem_of_getElem? (i := 46) rfl, rfl, encodes_pack (mc := 63) (mo := 63) (mj := 0) (md := false) (my := 0)
    (pc := 0) (po := 36) (pj := 0) (pd := false) (py := 0) (by decide) (by decide)
    ⟨rfl, rfl, and_none6 j, Bool.and_false d, and_none17 y⟩ (fun _ e => by cases e)⟩

theorem EncodesTableRow.sbv (j : IndexId) (d : Bool) (y : AddrField) : EncodesTableRow.Statement (.sbv j d y) := fun _ =>
  ⟨_, List.mem_of_getElem? (i := 47) rfl, rfl, encodes_pack (mc := 63) (mo := 63) (mj := 0) (md := false) (my := 0)
    (pc := 0) (po := 37) (pj := 0) (pd := false) (py := 0) (by decide) (by decide)
    ⟨rfl, rfl, and_none6 j, Bool.and_false d, and_none17 y⟩ (fun _ e => by cases e)⟩

theorem EncodesTableRow.mul (j : IndexId) (d : Bool) (y : AddrField) : EncodesTableRow.Statement (.mul j d y) := fun _ =>
  ⟨_, List.mem_of_getElem? (i := 48) rfl, rfl, encodes_pack (mc := 63) (mo := 63) (mj := 0) (md := false) (my := 0)
    (pc := 0) (po := 38) (pj := 0) (pd := false) (py := 0) (by decide) (by decide)
    ⟨rfl, rfl, and_none6 j, Bool.and_false d, and_none17 y⟩ (fun _ e => by cases e)⟩

theorem EncodesTableRow.div (j : IndexId) (d : Bool) (y : AddrField) : EncodesTableRow.Statement (.div j d y) := fun _ =>
  ⟨_, List.mem_of_getElem? (i := 49) rfl, rfl, encodes_pack (mc := 63) (mo := 63) (mj := 0) (md := false) (my := 0)
    (pc := 0) (po := 39) (pj := 0) (pd := false) (py := 0) (by decide) (by decide)
    ⟨rfl, rfl, and_none6 j, Bool.and_false d, and_none17 y⟩ (fun _ e => by cases e)⟩

theorem EncodesTableRow.and (j : IndexId) (d : Bool) (y : AddrField) : EncodesTableRow.Statement (.and j d y) := fun _ =>
  ⟨_, List.mem_of_getElem? (i := 50) rfl, rfl, encodes_pack (mc := 63) (mo := 63) (mj := 0) (md := false) (my := 0)
    (pc := 0) (po := 40) (pj := 0) (pd := false) (py := 0) (by decide) (by decide)
    ⟨rfl, rfl, and_none6 j, Bool.and_false d, and_none17 y⟩ (fun _ e => by cases e)⟩

theorem EncodesTableRow.ior (j : IndexId) (d : Bool) (y : AddrField) : EncodesTableRow.Statement (.ior j d y) := fun _ =>
  ⟨_, List.mem_of_getElem? (i := 51) rfl, rfl, encodes_pack (mc := 63) (mo := 63) (mj := 0) (md := false) (my := 0)
    (pc := 0) (po := 41) (pj := 0) (pd := false) (py := 0) (by decide) (by decide)
    ⟨rfl, rfl, and_none6 j, Bool.and_false d, and_none17 y⟩ (fun _ e => by cases e)⟩

theorem EncodesTableRow.xor (j : IndexId) (d : Bool) (y : AddrField) : EncodesTableRow.Statement (.xor j d y) := fun _ =>
  ⟨_, List.mem_of_getElem? (i := 52) rfl, rfl, encodes_pack (mc := 63) (mo := 63) (mj := 0) (md := false) (my := 0)
    (pc := 0) (po := 42) (pj := 0) (pd := false) (py := 0) (by decide) (by decide)
    ⟨rfl, rfl, and_none6 j, Bool.and_false d, and_none17 y⟩ (fun _ e => by cases e)⟩

theorem EncodesTableRow.ske (j : IndexId) (d : Bool) (y : AddrField) : EncodesTableRow.Statement (.ske j d y) := fun _ =>
  ⟨_, List.mem_of_getElem? (i := 53) rfl, rfl, encodes_pack (mc := 63) (mo := 63) (mj := 0) (md := false) (my := 0)
    (pc := 0) (po := 44) (pj := 0) (pd := false) (py := 0) (by decide) (by decide)
    ⟨rfl, rfl, and_none6 j, Bool.and_false d, and_none17 y⟩ (fun _ e => by cases e)⟩

theorem EncodesTableRow.skn (j : IndexId) (d : Bool) (y : AddrField) : EncodesTableRow.Statement (.skn j d y) := fun _ =>
  ⟨_, List.mem_of_getElem? (i := 54) rfl, rfl, encodes_pack (mc := 63) (mo := 63) (mj := 0) (md := false) (my := 0)
    (pc := 0) (po := 45) (pj := 0) (pd := false) (py := 0) (by decide) (by decide)
    ⟨rfl, rfl, and_none6 j, Bool.and_false d, and_none17 y⟩ (fun _ e => by cases e)⟩

theorem EncodesTableRow.skl (j : IndexId) (d : Bool) (y : AddrField) : EncodesTableRow.Statement (.skl j d y) := fun _ =>
  ⟨_, List.mem_of_getElem? (i := 55) rfl, rfl, encodes_pack (mc := 63) (mo := 63) (mj := 0) (md := false) (my := 0)
    (pc := 0) (po := 46) (pj := 0) (pd := false) (py := 0) (by decide) (by decide)
    ⟨rfl, rfl, and_none6 j, Bool.and_false d, and_none17 y⟩ (fun _ e => by cases e)⟩

theorem EncodesTableRow.skg (j : IndexId) (d : Bool) (y : AddrField) : EncodesTableRow.Statement (.skg j d y) := fun _ =>
  ⟨_, List.mem_of_getElem? (i := 56) rfl, rfl, encodes_pack (mc := 63) (mo := 63) (mj := 0) (md := false) (my := 0)
    (pc := 0) (po := 47) (pj := 0) (pd := false) (py := 0) (by decide) (by decide)
    ⟨rfl, rfl, and_none6 j, Bool.and_false d, and_none17 y⟩ (fun _ e => by cases e)⟩

theorem EncodesTableRow.sen (n : Config6) : EncodesTableRow.Statement (.sen n) := fun _ =>
  ⟨_, List.mem_of_getElem? (i := 57) rfl, rfl, encodes_pack (mc := 0) (mo := 63) (mj := 63) (md := true) (my := 131071)
    (pc := 0) (po := 48) (pj := 0) (pd := false) (py := 0) (by decide) (by decide)
    ⟨and_none6 n, rfl, rfl, rfl, rfl⟩ (fun _ e => by cases e)⟩

theorem EncodesTableRow.sds (n : Config6) : EncodesTableRow.Statement (.sds n) := fun _ =>
  ⟨_, List.mem_of_getElem? (i := 58) rfl, rfl, encodes_pack (mc := 0) (mo := 63) (mj := 63) (md := true) (my := 131071)
    (pc := 0) (po := 49) (pj := 0) (pd := false) (py := 0) (by decide) (by decide)
    ⟨and_none6 n, rfl, rfl, rfl, rfl⟩ (fun _ e => by cases e)⟩

theorem EncodesTableRow.spr (n : Config6) (j : IndexId) (y : AddrField) : EncodesTableRow.Statement (.spr n j y) := fun _ =>
  ⟨_, List.mem_of_getElem? (i := 59) rfl, rfl, encodes_pack (mc := 0) (mo := 63) (mj := 0) (md := true) (my := 0)
    (pc := 0) (po := 50) (pj := 0) (pd := false) (py := 0) (by decide) (by decide)
    ⟨and_none6 n, rfl, and_none6 j, rfl, and_none17 y⟩ (fun _ e => by cases e)⟩

theorem EncodesTableRow.spc (n : Config6) (j : IndexId) (d : Bool) (y : AddrField) : EncodesTableRow.Statement (.spc n j d y) := fun _ =>
  ⟨_, List.mem_of_getElem? (i := 60) rfl, rfl, encodes_pack (mc := 0) (mo := 63) (mj := 0) (md := false) (my := 0)
    (pc := 0) (po := 51) (pj := 0) (pd := false) (py := 0) (by decide) (by decide)
    ⟨and_none6 n, rfl, and_none6 j, Bool.and_false d, and_none17 y⟩ (fun _ e => by cases e)⟩

theorem EncodesTableRow.rss (n : Config6) : EncodesTableRow.Statement (.rss n) := fun _ =>
  ⟨_, List.mem_of_getElem? (i := 61) rfl, rfl, encodes_pack (mc := 0) (mo := 63) (mj := 63) (md := true) (my := 131071)
    (pc := 0) (po := 52) (pj := 0) (pd := false) (py := 0) (by decide) (by decide)
    ⟨and_none6 n, rfl, rfl, rfl, rfl⟩ (fun _ e => by cases e)⟩

theorem EncodesTableRow.ras (k : Config6) : EncodesTableRow.Statement (.ras k) := fun h =>
  ⟨_, List.mem_of_getElem? (i := 62) rfl, rfl, encodes_pack (mc := 0) (mo := 63) (mj := 63) (md := true) (my := 131071)
    (pc := 0) (po := 53) (pj := 0) (pd := false) (py := 0) (by decide) (by decide)
    ⟨and_none6 k, rfl, rfl, rfl, rfl⟩ (fun k' e => by cases e; simpa [Instr.wellFormed] using h)⟩

theorem EncodesTableRow.rdt (j : IndexId) (d : Bool) (y : AddrField) : EncodesTableRow.Statement (.rdt j d y) := fun _ =>
  ⟨_, List.mem_of_getElem? (i := 63) rfl, rfl, encodes_pack (mc := 63) (mo := 63) (mj := 0) (md := false) (my := 0)
    (pc := 0) (po := 56) (pj := 0) (pd := false) (py := 0) (by decide) (by decide)
    ⟨rfl, rfl, and_none6 j, Bool.and_false d, and_none17 y⟩ (fun _ e => by cases e)⟩

end Sys2Proof.Laws
end

