-- ==== Sys2Proof/Tests/Slice0.lean ====
section
/-! SUPPORT. Tests. The expected values come from the spec: the words and the results are the vectors of 95_test_vectors.md, named in each
theorem. The last part shows, for every statement with hypotheses, concrete states and operands that meet them. -/

set_option Elab.async false

namespace Sys2Proof.Tests
open Sys2Proof.Machine

/-! ### Helpers -/

/-- Sequence `cur` enabled at pc `p`, with the word `w` at that address; the rest as after reset. -/
def start (cur : SeqId) (p : Pc) (w : Word) : State :=
  setSeq { State.reset with mode := .running, mem := Memory.write [] p.toNat w } cur { SeqRec.reset with pc := p, en := true }

def setX (j : IndexId) (v : IndexWord) (s : State) : State := writeX s j v
def setM (addr : Nat) (v : Word) (s : State) : State := { s with mem := s.mem.write addr v }
def setQ (n : SeqId) (f : SeqRec → SeqRec) (s : State) : State := setSeq s n (f (seqAt s n))
def applyAll (s : State) (fs : List (State → State)) : State := fs.foldl (fun t f => f t) s

/-- The answer is a next state of which `p` holds. -/
def answers (o : Host.Outcome State Fault Refusal) (p : State → Bool) : Bool :=
  match o with
  | .next t => p t
  | _ => false

theorem next_of_answers {o : Host.Outcome State Fault Refusal} {p : State → Bool} (h : answers o p = true) :
    ∃ t, o = .next t ∧ p t = true := by
  cases o with
  | next t => exact ⟨t, rfl, h⟩
  | fault r => cases h
  | refused r => cases h

/-! ### Well-formedness (30_encoding.md R147, R148, R152) -/

theorem test_wellFormed_refuses_selector : (Instr.ras 3).wellFormed = false ∧ encodeChecked (.ras 3) = none := by decide +kernel
theorem test_wellFormed_accepts_selector : (Instr.ras 2).wellFormed = true := by decide +kernel
theorem test_fit_refuses_c : (Fields.mk 64 0 0 0 0).fit = false := by decide
theorem test_fit_refuses_op : (Fields.mk 0 64 0 0 0).fit = false := by decide
theorem test_fit_refuses_j : (Fields.mk 0 0 64 0 0).fit = false := by decide
theorem test_fit_refuses_d : (Fields.mk 0 0 0 2 0).fit = false := by decide
theorem test_fit_refuses_y : (Fields.mk 0 0 0 0 131072).fit = false := by decide
theorem test_encodeFields_refuses_wide : encodeFields ⟨0, 0o10, 0, 0, 131072⟩ = none := by decide +kernel
theorem test_encodeFields_refuses_illegal : encodeFields ⟨1, 0o10, 0, 0, 0o100⟩ = none := by decide +kernel
theorem test_encodeFields_legal : encodeFields ⟨0, 0o10, 3, 1, 0o144⟩ = some 0o001003400144 := by decide +kernel

/-! ### Decoding: words of the spec, each with the instruction it stands for -/

/-- Words of 95_test_vectors.md §3, one for each instruction of the family `load_store`. -/
theorem test_decode_load_store :
    decode 0o001002400100 = .ok (.lda 2 true 0o100) ∧
    decode 0o001100000100 = .ok (.ldb 0 false 0o100) ∧
    decode 0o001200000100 = .ok (.sta 0 false 0o100) ∧
    decode 0o001304000100 = .ok (.stb 4 false 0o100) ∧
    decode 0o001400000100 = .ok (.stz 0 false 0o100) ∧
    decode 0o001501377777 = .ok (.lia 1 0o377777) ∧
    decode 0o001600000014 = .ok (.lib 0 12) := by
  decide +kernel

/-- Words of 95_test_vectors.md §3, one for each instruction of the family `index`. -/
theorem test_decode_index :
    decode 0o002003400100 = .ok (.ldx 3 true 0o100) ∧
    decode 0o002103000101 = .ok (.stx 3 false 0o101) ∧
    decode 0o002202377777 = .ok (.lix 2 0o377777) ∧
    decode 0o002302000001 = .ok (.adx 2 1) ∧
    decode 0o002403000000 = .ok (.txa 3) ∧
    decode 0o002503000000 = .ok (.tax 3) ∧
    decode 0o002601000050 = .ok (.djp 1 false 0o50) := by
  decide +kernel

/-- Words of 95_test_vectors.md §3, one for each instruction of the family `control`. -/
theorem test_decode_control :
    decode 0o003000400100 = .ok (.jmp 0 true 0o100) ∧
    decode 0o003100401000 = .ok (.jaz 0 true 0o1000) ∧
    decode 0o003200000500 = .ok (.jnz 0 false 0o500) ∧
    decode 0o003300000500 = .ok (.jan 0 false 0o500) ∧
    decode 0o003400000500 = .ok (.jap 0 false 0o500) ∧
    decode 0o003500000500 = .ok (.jov 0 false 0o500) ∧
    decode 0o003600000500 = .ok (.jcy 0 false 0o500) ∧
    decode 0o003701000500 = .ok (.jsx 1 false 0o500) := by
  decide +kernel

/-- Words of 95_test_vectors.md §3, one for each instruction of the family `arith`. -/
theorem test_decode_arith :
    decode 0o004000000100 = .ok (.add 0 false 0o100) ∧
    decode 0o004100000100 = .ok (.sub 0 false 0o100) ∧
    decode 0o004200000100 = .ok (.adc 0 false 0o100) ∧
    decode 0o004300000100 = .ok (.sbc 0 false 0o100) ∧
    decode 0o004400000100 = .ok (.adv 0 false 0o100) ∧
    decode 0o004500000100 = .ok (.sbv 0 false 0o100) ∧
    decode 0o004600000100 = .ok (.mul 0 false 0o100) ∧
    decode 0o004700000100 = .ok (.div 0 false 0o100) := by
  decide +kernel

/-- Words of 95_test_vectors.md §3, one for each instruction of the family `logic_shift`. -/
theorem test_decode_logic_shift :
    decode 0o005000000100 = .ok (.and 0 false 0o100) ∧
    decode 0o005100000100 = .ok (.ior 0 false 0o100) ∧
    decode 0o005200000100 = .ok (.xor 0 false 0o100) ∧
    decode 0o010200000000 = .ok (.shl 1) ∧
    decode 0o010300000000 = .ok (.shr 1) ∧
    decode 0o430400000000 = .ok (.sar 35) ∧
    decode 0o010500000000 = .ok (.rol 1) ∧
    decode 0o010600000000 = .ok (.ror 1) := by
  decide +kernel

/-- Words of 95_test_vectors.md §3, one for each instruction of the family `compare_skip`. -/
theorem test_decode_compare_skip :
    decode 0o005400000100 = .ok (.ske 0 false 0o100) ∧
    decode 0o005500000100 = .ok (.skn 0 false 0o100) ∧
    decode 0o005600000100 = .ok (.skl 0 false 0o100) ∧
    decode 0o005700000100 = .ok (.skg 0 false 0o100) := by
  decide +kernel

/-- Words of 95_test_vectors.md §3, one for each instruction of the family `operate`. -/
theorem test_decode_operate :
    decode 0o000100000000 = .ok (.nop) ∧
    decode 0o010100000000 = .ok (.cla) ∧
    decode 0o020100000000 = .ok (.com) ∧
    decode 0o030100000000 = .ok (.neg) ∧
    decode 0o040100000000 = .ok (.xab) ∧
    decode 0o050100000000 = .ok (.tab) ∧
    decode 0o060100000000 = .ok (.tba) ∧
    decode 0o070100000000 = .ok (.clc) ∧
    decode 0o100100000000 = .ok (.sec) ∧
    decode 0o110100000000 = .ok (.clo) ∧
    decode 0o160100000000 = .ok (.hlt) := by
  decide +kernel

/-- Words of 95_test_vectors.md §3, one for each instruction of the family `sequence`. -/
theorem test_decode_sequence :
    decode 0o056000000000 = .ok (.sen 5) ∧
    decode 0o056100000000 = .ok (.sds 5) ∧
    decode 0o026201000000 = .ok (.spr 2 1 0) ∧
    decode 0o016300400200 = .ok (.spc 1 0 true 0o200) ∧
    decode 0o056400000000 = .ok (.rss 5) ∧
    decode 0o026500000000 = .ok (.ras 2) ∧
    decode 0o130100000000 = .ok (.dis) ∧
    decode 0o120100000000 = .ok (.rsi) ∧
    decode 0o140100000000 = .ok (.ack) := by
  decide +kernel

/-- Words of 95_test_vectors.md §3, one for each instruction of the family `io`. -/
theorem test_decode_io :
    decode 0o007000401000 = .ok (.rdt 0 true 0o1000) ∧
    decode 0o150100000000 = .ok (.pch) := by
  decide +kernel

/-- 95_test_vectors.md §2, the words marked illegal. -/
theorem test_decode_illegal :
    decode 0o000000000000 = .error .reservedOpcode ∧ decode 0o000700000000 = .error .reservedOpcode ∧
    decode 0o005300000100 = .error .reservedOpcode ∧ decode 0o007100000000 = .error .reservedOpcode ∧
    decode 0o007700000000 = .error .reservedOpcode ∧ decode 0o170100000000 = .error .reservedOperate ∧
    decode 0o000101000000 = .error .mustBeZero ∧ decode 0o000100000001 = .error .mustBeZero ∧
    decode 0o036500000000 = .error .reservedSelector ∧ decode 0o011000000100 = .error .mustBeZero ∧
    decode 0o001500400005 = .error .mustBeZero ∧ decode 0o002403000001 = .error .mustBeZero ∧
    decode 0o002403400000 = .error .mustBeZero ∧ decode 0o030201000000 = .error .mustBeZero ∧
    decode 0o056000000001 = .error .mustBeZero ∧ decode 0o056200400000 = .error .mustBeZero := by
  decide +kernel

/-- 95_test_vectors.md §2, the words whose fields are all at their largest value. -/
theorem test_decode_full_fields :
    decode 0o770200000000 = .ok (.shl 63) ∧ decode 0o776277377777 = .ok (.spr 63 63 131071) ∧
    decode 0o776377777777 = .ok (.spc 63 63 true 131071) ∧ decode 0o001077777777 = .ok (.lda 63 true 131071) ∧
    decode 0o003777777777 = .ok (.jsx 63 true 131071) := by
  decide +kernel

/-- No two rows of the table match one word: their patterns differ in a bit that both masks cover (30_encoding.md R147). -/
theorem test_rows_disjoint : opcodeTable.Pairwise (fun r q => r.pattern &&& q.mask ≠ q.pattern &&& r.mask) := by decide +kernel

/-! ### One step from a small state: 95_test_vectors.md §3 and §4, by the id of the vector -/

theorem test_lda_v41_4 : answers (step (applyAll (start 0 0o10 0o001000400100) [setM 0o100 0o777777000200,
    setM 0o200 0o000000000042])) (fun t => t.a == 0o000000000042 && (seqAt t 0).pc == 0o11) = true := by
  decide +kernel

theorem test_lda_v41_7 : answers (step (applyAll (start 0 0o10 0o001001000000) [setX 1 0o777775]))
    (fun t => t.mode == .halted ⟨.addressFault, 0, 0o10, 0o001001000000, 0o777777777775⟩) = true := by
  decide +kernel

theorem test_ldb_v41_10 : answers (step (applyAll (start 0 0o10 0o001100000100) [setM 0o100 0o000000000055]))
    (fun t => t.b == 0o000000000055 && (seqAt t 0).pc == 0o11) = true := by
  decide +kernel

theorem test_sta_v41_11 : answers (step (applyAll (start 0 0o10 0o001200000100) [fun s => { s with a := 0o777777777777 }]))
    (fun t => (seqAt t 0).pc == 0o11 && t.mem.read 0o100 == 0o777777777777) = true := by
  decide +kernel

theorem test_sta_v41_12 : answers (step (applyAll (start 0 0o10 0o001200001000) [fun s => { s with a := 0o000000000001, params := { Params.default with memSize := 512 } }])) (fun t => t.mode == .halted ⟨.addressFault, 0, 0o10, 0o001200001000, 0o000000001000⟩) = true := by
  decide +kernel

theorem test_stb_v41_13 : answers (step (applyAll (start 0 0o10 0o001304000100) [fun s => { s with b := 0o000000000066 },
    setX 4 0o000002])) (fun t => (seqAt t 0).pc == 0o11 && t.mem.read 0o102 == 0o000000000066) = true := by
  decide +kernel

theorem test_stz_v41_14 : answers (step (applyAll (start 0 0o10 0o001400000100) [setM 0o100 0o000000000077]))
    (fun t => (seqAt t 0).pc == 0o11 && t.mem.read 0o100 == 0o000000000000) = true := by
  decide +kernel

theorem test_lia_v41_17 : answers (step (applyAll (start 0 0o10 0o001501000005) [setX 1 0o777766])) (fun t => t.a == 0o777777777773 &&
    (seqAt t 0).pc == 0o11) = true := by
  decide +kernel

theorem test_lia_v41_18 : answers (step (applyAll (start 0 0o10 0o001501377777) [setX 1 0o377777])) (fun t => t.a == 0o000000777776 &&
    (seqAt t 0).pc == 0o11) = true := by
  decide +kernel

theorem test_lib_v41_19 : answers (step (applyAll (start 0 0o10 0o001600000014) [fun s => { s with b := 0o000000000143 }]))
    (fun t => t.b == 0o000000000014 && (seqAt t 0).pc == 0o11) = true := by
  decide +kernel

theorem test_ldx_v42_1 : answers (step (applyAll (start 0 0o10 0o002003000100) [setM 0o100 0o123456777776]))
    (fun t => readX t 3 == 0o777776 && (seqAt t 0).pc == 0o11) = true := by
  decide +kernel

theorem test_ldx_v42_2 : answers (step (applyAll (start 0 0o10 0o002000000100) [setM 0o100 0o000000000005]))
    (fun t => (seqAt t 0).pc == 0o11) = true := by
  decide +kernel

theorem test_stx_v42_4 : answers (step (applyAll (start 0 0o10 0o002103000101) [setX 3 0o777776])) (fun t => (seqAt t 0).pc == 0o11 &&
    t.mem.read 0o101 == 0o777777777776) = true := by
  decide +kernel

theorem test_stx_v42_5 : answers (step (applyAll (start 0 0o10 0o002100000101) [setM 0o101 0o000000000007]))
    (fun t => (seqAt t 0).pc == 0o11 && t.mem.read 0o101 == 0o000000000000) = true := by
  decide +kernel

theorem test_lix_v42_6 : answers (step (applyAll (start 0 0o10 0o002202377777) [])) (fun t => readX t 2 == 0o377777 &&
    (seqAt t 0).pc == 0o11) = true := by
  decide +kernel

theorem test_adx_v42_7 : answers (step (applyAll (start 0 0o10 0o002302000001) [setX 2 0o377777])) (fun t => readX t 2 == 0o400000 &&
    (seqAt t 0).pc == 0o11) = true := by
  decide +kernel

theorem test_adx_v42_8 : answers (step (applyAll (start 0 0o10 0o002302377777) [setX 2 0o000000])) (fun t => readX t 2 == 0o777777 &&
    (seqAt t 0).pc == 0o11) = true := by
  decide +kernel

theorem test_txa_v42_11 : answers (step (applyAll (start 0 0o10 0o002403000000) [setX 3 0o777776])) (fun t => t.a == 0o777777777776 &&
    (seqAt t 0).pc == 0o11) = true := by
  decide +kernel

theorem test_tax_v42_13 : answers (step (applyAll (start 0 0o10 0o002503000000) [fun s => { s with a := 0o123456654321 }]))
    (fun t => readX t 3 == 0o654321 && (seqAt t 0).pc == 0o11) = true := by
  decide +kernel

theorem test_djp_v42_15 : answers (step (applyAll (start 0 0o10 0o002601000050) [setX 1 0o000001])) (fun t => readX t 1 == 0o000000 &&
    (seqAt t 0).pc == 0o50) = true := by
  decide +kernel

theorem test_djp_v42_18 : answers (step (applyAll (start 0 0o10 0o002601001000) [fun s => { s with params := { Params.default with memSize := 512 } }, setX 1 0o000002])) (fun t => t.mode == .halted ⟨.addressFault, 0, 0o10, 0o002601001000, 0o000000001000⟩) = true := by
  decide +kernel

theorem test_jmp_v43_3 : answers (step (applyAll (start 0 0o10 0o003002000100) [setX 2 0o777730]))
    (fun t => (seqAt t 0).pc == 0o30) = true := by
  decide +kernel

theorem test_jmp_v43_4 : answers (step (applyAll (start 0 0o10 0o003000400100) [setM 0o100 0o777777000700]))
    (fun t => (seqAt t 0).pc == 0o700) = true := by
  decide +kernel

theorem test_jaz_v43_7 : answers (step (applyAll (start 0 0o10 0o003100000500) [fun s => { s with a := 0o000000000000 }]))
    (fun t => (seqAt t 0).pc == 0o500) = true := by
  decide +kernel

theorem test_jaz_v43_19 : answers (step (applyAll (start 0 0o10 0o003100401000) [fun s => { s with a := 0o000000000001, params := { Params.default with memSize := 512 } }])) (fun t => t.mode == .halted ⟨.addressFault, 0, 0o10, 0o003100401000, 0o000000001000⟩) = true := by
  decide +kernel

theorem test_jnz_v43_9 : answers (step (applyAll (start 0 0o10 0o003200000500) [fun s => { s with a := 0o400000000000 }]))
    (fun t => (seqAt t 0).pc == 0o500) = true := by
  decide +kernel

theorem test_jnz_v43_10 : answers (step (applyAll (start 0 0o10 0o003200001000) [fun s => { s with a := 0o000000000000, params := { Params.default with memSize := 512 } }])) (fun t => (seqAt t 0).pc == 0o11) = true := by
  decide +kernel

theorem test_jan_v43_11 : answers (step (applyAll (start 0 0o10 0o003300000500) [fun s => { s with a := 0o400000000000 }]))
    (fun t => (seqAt t 0).pc == 0o500) = true := by
  decide +kernel

theorem test_jan_v43_12 : answers (step (applyAll (start 0 0o10 0o003300000500) [fun s => { s with a := 0o000000000000 }]))
    (fun t => (seqAt t 0).pc == 0o11) = true := by
  decide +kernel

theorem test_jap_v43_13 : answers (step (applyAll (start 0 0o10 0o003400000500) [fun s => { s with a := 0o000000000001 }]))
    (fun t => (seqAt t 0).pc == 0o500) = true := by
  decide +kernel

theorem test_jap_v43_14 : answers (step (applyAll (start 0 0o10 0o003400000500) [fun s => { s with a := 0o000000000000 }]))
    (fun t => (seqAt t 0).pc == 0o11) = true := by
  decide +kernel

theorem test_jov_v43_15 : answers (step (applyAll (start 0 0o10 0o003500000500) [setQ 0 (fun q => { q with ov := true })]))
    (fun t => (seqAt t 0).pc == 0o500 && (seqAt t 0).ov == false) = true := by
  decide +kernel

theorem test_jov_v43_16 : answers (step (applyAll (start 0 0o10 0o003500000500) [])) (fun t => (seqAt t 0).pc == 0o11) = true := by
  decide +kernel

theorem test_jcy_v43_17 : answers (step (applyAll (start 0 0o10 0o003600000500) [setQ 0 (fun q => { q with cy := true })]))
    (fun t => (seqAt t 0).pc == 0o500) = true := by
  decide +kernel

theorem test_jcy_v43_18 : answers (step (applyAll (start 0 0o10 0o003600000500) [])) (fun t => (seqAt t 0).pc == 0o11) = true := by
  decide +kernel

theorem test_jsx_v43_20 : answers (step (applyAll (start 0 0o10 0o003701000500) [])) (fun t => readX t 1 == 0o000011 &&
    (seqAt t 0).pc == 0o500) = true := by
  decide +kernel

theorem test_jsx_v43_22 : answers (step (applyAll (start 0 0o10 0o003701001000) [fun s => { s with params := { Params.default with memSize := 512 } }])) (fun t => t.mode == .halted ⟨.addressFault, 0, 0o10, 0o003701001000, 0o000000001000⟩) = true := by
  decide +kernel

theorem test_add_v44_4 : answers (step (applyAll (start 0 0o10 0o004000000100) [fun s => { s with a := 0o400000000000 },
    setM 0o100 0o400000000000])) (fun t => t.a == 0o000000000000 && (seqAt t 0).pc == 0o11 && (seqAt t 0).ov == true &&
    (seqAt t 0).cy == true) = true := by
  decide +kernel

theorem test_add_v44_5 : answers (step (applyAll (start 0 0o10 0o004000000100) [fun s => { s with a := 0o000000000001 },
    setQ 0 (fun q => { q with ov := true }), setM 0o100 0o000000000001])) (fun t => t.a == 0o000000000002 &&
    (seqAt t 0).pc == 0o11) = true := by
  decide +kernel

theorem test_sub_v44_7 : answers (step (applyAll (start 0 0o10 0o004100000100) [fun s => { s with a := 0o000000000003 },
    setM 0o100 0o000000000005])) (fun t => t.a == 0o777777777776 && (seqAt t 0).pc == 0o11) = true := by
  decide +kernel

theorem test_sub_v44_8 : answers (step (applyAll (start 0 0o10 0o004100000100) [fun s => { s with a := 0o400000000000 },
    setM 0o100 0o000000000001])) (fun t => t.a == 0o377777777777 && (seqAt t 0).pc == 0o11 && (seqAt t 0).ov == true &&
    (seqAt t 0).cy == true) = true := by
  decide +kernel

theorem test_adc_v44_10 : answers (step (applyAll (start 0 0o10 0o004200000100) [fun s => { s with a := 0o000000000002 },
    setQ 0 (fun q => { q with cy := true }), setM 0o100 0o000000000003])) (fun t => t.a == 0o000000000006 && (seqAt t 0).pc == 0o11 &&
    (seqAt t 0).cy == false) = true := by
  decide +kernel

theorem test_adc_v44_11 : answers (step (applyAll (start 0 0o10 0o004200000100) [fun s => { s with a := 0o777777777777 },
    setQ 0 (fun q => { q with cy := true }), setM 0o100 0o000000000000])) (fun t => t.a == 0o000000000000 &&
    (seqAt t 0).pc == 0o11) = true := by
  decide +kernel

theorem test_sbc_v44_12 : answers (step (applyAll (start 0 0o10 0o004300000100) [fun s => { s with a := 0o000000000005 },
    setM 0o100 0o000000000003])) (fun t => t.a == 0o000000000001 && (seqAt t 0).pc == 0o11 && (seqAt t 0).cy == true) = true := by
  decide +kernel

theorem test_sbc_v44_13 : answers (step (applyAll (start 0 0o10 0o004300000100) [fun s => { s with a := 0o000000000005 },
    setQ 0 (fun q => { q with cy := true }), setM 0o100 0o000000000003])) (fun t => t.a == 0o000000000002 &&
    (seqAt t 0).pc == 0o11) = true := by
  decide +kernel

theorem test_adv_v44_15 : answers (step (applyAll (start 0 0o10 0o004400000100) [fun s => { s with a := 0o377777777777 },
    setM 0o100 0o000000000001])) (fun t => t.mode == .halted ⟨.arithmeticFault, 0, 0o10, 0o004400000100, 0o000000000100⟩) = true := by
  decide +kernel

theorem test_adv_v44_16 : answers (step (applyAll (start 0 0o10 0o004400000100) [fun s => { s with a := 0o377777777777, params := { Params.default with handlerArith := some 1 } }, setQ 1 (fun q => { q with pc := 0o600 }), setM 0o100 0o000000000001])) (fun t => (seqAt t 0).en == false && (seqAt t 1).en == true && t.asr.valid == true && t.asr.kind == 0o3 && t.asr.pc == 0o10 && t.asr.word == 0o004400000100 && t.asr.info == 0o000000000100) = true := by
  decide +kernel

theorem test_sbv_v44_17 : answers (step (applyAll (start 0 0o10 0o004500000100) [fun s => { s with a := 0o400000000000 },
    setM 0o100 0o000000000001])) (fun t => t.mode == .halted ⟨.arithmeticFault, 0, 0o10, 0o004500000100, 0o000000000100⟩) = true := by
  decide +kernel

theorem test_sbv_v44_18 : answers (step (applyAll (start 0 0o10 0o004500000100) [fun s => { s with a := 0o777777777777 },
    setM 0o100 0o777777777777])) (fun t => t.a == 0o000000000000 && (seqAt t 0).pc == 0o11 && (seqAt t 0).cy == true) = true := by
  decide +kernel

theorem test_mul_v44_20 : answers (step (applyAll (start 0 0o10 0o004600000100) [fun s => { s with a := 0o777777777772 },
    setM 0o100 0o000000000007])) (fun t => t.a == 0o777777777777 && t.b == 0o777777777726 && (seqAt t 0).pc == 0o11) = true := by
  decide +kernel

theorem test_mul_v44_21 : answers (step (applyAll (start 0 0o10 0o004600000100) [fun s => { s with a := 0o400000000000 },
    setM 0o100 0o400000000000])) (fun t => t.a == 0o200000000000 && (seqAt t 0).pc == 0o11) = true := by
  decide +kernel

theorem test_div_v44_27 : answers (step (applyAll (start 0 0o10 0o004700000100) [fun s => { s with a := 0o777777777771 },
    setM 0o100 0o777777777776])) (fun t => t.a == 0o000000000003 && t.b == 0o777777777777 && (seqAt t 0).pc == 0o11) = true := by
  decide +kernel

theorem test_div_v44_29 : answers (step (applyAll (start 0 0o10 0o004700000100) [fun s => { s with a := 0o400000000000 },
    setM 0o100 0o777777777777])) (fun t => t.mode == .halted ⟨.arithmeticFault, 0, 0o10, 0o004700000100, 0o000000000100⟩) = true := by
  decide +kernel

theorem test_and_v45_1 : answers (step (applyAll (start 0 0o10 0o005000000100) [fun s => { s with a := 0o707070707070 },
    setM 0o100 0o777700000077])) (fun t => t.a == 0o707000000070 && (seqAt t 0).pc == 0o11) = true := by
  decide +kernel

theorem test_ior_v45_2 : answers (step (applyAll (start 0 0o10 0o005100000100) [fun s => { s with a := 0o707070707070 },
    setM 0o100 0o070707070707])) (fun t => t.a == 0o777777777777 && (seqAt t 0).pc == 0o11) = true := by
  decide +kernel

theorem test_xor_v45_3 : answers (step (applyAll (start 0 0o10 0o005200000100) [fun s => { s with a := 0o777777777777 },
    setM 0o100 0o123456701234])) (fun t => t.a == 0o654321076543 && (seqAt t 0).pc == 0o11) = true := by
  decide +kernel

theorem test_shl_v45_8 : answers (step (applyAll (start 0 0o10 0o440200000000) [fun s => { s with a := 0o000000000001 }]))
    (fun t => t.a == 0o000000000000 && (seqAt t 0).pc == 0o11 && (seqAt t 0).cy == true) = true := by
  decide +kernel

theorem test_shl_v45_9 : answers (step (applyAll (start 0 0o10 0o450200000000) [fun s => { s with a := 0o777777777777 },
    setQ 0 (fun q => { q with cy := true })])) (fun t => t.a == 0o000000000000 && (seqAt t 0).pc == 0o11 &&
    (seqAt t 0).cy == false) = true := by
  decide +kernel

theorem test_shr_v45_10 : answers (step (applyAll (start 0 0o10 0o010300000000) [fun s => { s with a := 0o400000000001 }]))
    (fun t => t.a == 0o200000000000 && (seqAt t 0).pc == 0o11 && (seqAt t 0).cy == true) = true := by
  decide +kernel

theorem test_shr_v45_11 : answers (step (applyAll (start 0 0o10 0o440300000000) [fun s => { s with a := 0o400000000000 }]))
    (fun t => t.a == 0o000000000000 && (seqAt t 0).pc == 0o11 && (seqAt t 0).cy == true) = true := by
  decide +kernel

theorem test_sar_v45_14 : answers (step (applyAll (start 0 0o10 0o030400000000) [fun s => { s with a := 0o777777777767 }]))
    (fun t => t.a == 0o777777777776 && (seqAt t 0).pc == 0o11 && (seqAt t 0).cy == true) = true := by
  decide +kernel

theorem test_sar_v45_16 : answers (step (applyAll (start 0 0o10 0o440400000000) [fun s => { s with a := 0o400000000001 }]))
    (fun t => t.a == 0o777777777777 && (seqAt t 0).pc == 0o11 && (seqAt t 0).cy == true) = true := by
  decide +kernel

theorem test_rol_v45_18 : answers (step (applyAll (start 0 0o10 0o010500000000) [fun s => { s with a := 0o400000000001 },
    setQ 0 (fun q => { q with cy := true })])) (fun t => t.a == 0o000000000003 && (seqAt t 0).pc == 0o11) = true := by
  decide +kernel

theorem test_rol_v45_20 : answers (step (applyAll (start 0 0o10 0o470500000000) [fun s => { s with a := 0o000000000001 }]))
    (fun t => t.a == 0o000000000010 && (seqAt t 0).pc == 0o11) = true := by
  decide +kernel

theorem test_ror_v45_21 : answers (step (applyAll (start 0 0o10 0o010600000000) [fun s => { s with a := 0o000000000001 }]))
    (fun t => t.a == 0o400000000000 && (seqAt t 0).pc == 0o11) = true := by
  decide +kernel

theorem test_ror_v45_23 : answers (step (applyAll (start 0 0o10 0o500600000000) [fun s => { s with a := 0o000000000100 }]))
    (fun t => t.a == 0o000000000004 && (seqAt t 0).pc == 0o11) = true := by
  decide +kernel

theorem test_ske_v46_2 : answers (step (applyAll (start 0 0o10 0o005400000100) [fun s => { s with a := 0o000000000005 },
    setM 0o100 0o000000000006])) (fun t => (seqAt t 0).pc == 0o11) = true := by
  decide +kernel

theorem test_ske_v46_11 : answers (step (applyAll (start 0 0o776 0o005400000100) [fun s => { s with a := 0o000000000000, params := { Params.default with memSize := 512 } }, setM 0o100 0o000000000000])) (fun t => (seqAt t 0).pc == 0o1000) = true := by
  decide +kernel

theorem test_skn_v46_3 : answers (step (applyAll (start 0 0o10 0o005500000100) [fun s => { s with a := 0o000000000000 },
    setM 0o100 0o400000000000])) (fun t => (seqAt t 0).pc == 0o12) = true := by
  decide +kernel

theorem test_skl_v46_5 : answers (step (applyAll (start 0 0o10 0o005600000100) [fun s => { s with a := 0o777777777777 },
    setM 0o100 0o000000000000])) (fun t => (seqAt t 0).pc == 0o12) = true := by
  decide +kernel

theorem test_skl_v46_6 : answers (step (applyAll (start 0 0o10 0o005600000100) [fun s => { s with a := 0o000000000000 },
    setM 0o100 0o777777777777])) (fun t => (seqAt t 0).pc == 0o11) = true := by
  decide +kernel

theorem test_skg_v46_8 : answers (step (applyAll (start 0 0o10 0o005700000100) [fun s => { s with a := 0o377777777777 },
    setM 0o100 0o400000000000])) (fun t => (seqAt t 0).pc == 0o12) = true := by
  decide +kernel

theorem test_skg_v46_9 : answers (step (applyAll (start 0 0o10 0o005700000100) [fun s => { s with a := 0o000000000003 },
    setM 0o100 0o000000000003])) (fun t => (seqAt t 0).pc == 0o11) = true := by
  decide +kernel

theorem test_nop_v47_1 : answers (step (applyAll (start 0 0o10 0o000100000000) [fun s => { s with a := 0o000000000003 }]))
    (fun t => (seqAt t 0).pc == 0o11) = true := by
  decide +kernel

theorem test_cla_v47_2 : answers (step (applyAll (start 0 0o10 0o010100000000) [fun s => { s with a := 0o000000000123 }]))
    (fun t => t.a == 0o000000000000 && (seqAt t 0).pc == 0o11) = true := by
  decide +kernel

theorem test_com_v47_4 : answers (step (applyAll (start 0 0o10 0o020100000000) [fun s => { s with a := 0o000000000005 }]))
    (fun t => t.a == 0o777777777772 && (seqAt t 0).pc == 0o11) = true := by
  decide +kernel

theorem test_neg_v47_6 : answers (step (applyAll (start 0 0o10 0o030100000000) [fun s => { s with a := 0o000000000000 }]))
    (fun t => (seqAt t 0).pc == 0o11 && (seqAt t 0).cy == true) = true := by
  decide +kernel

theorem test_neg_v47_7 : answers (step (applyAll (start 0 0o10 0o030100000000) [fun s => { s with a := 0o400000000000 }]))
    (fun t => (seqAt t 0).pc == 0o11 && (seqAt t 0).ov == true) = true := by
  decide +kernel

theorem test_xab_v47_8 : answers (step (applyAll (start 0 0o10 0o040100000000) [fun s => { s with a := 0o000000000001, b := 0o000000000002 }])) (fun t => t.a == 0o000000000002 && t.b == 0o000000000001 && (seqAt t 0).pc == 0o11) = true := by
  decide +kernel

theorem test_tab_v47_9 : answers (step (applyAll (start 0 0o10 0o050100000000) [fun s => { s with a := 0o000000000011, b := 0o000000000001 }])) (fun t => t.b == 0o000000000011 && (seqAt t 0).pc == 0o11) = true := by
  decide +kernel

theorem test_tba_v47_10 : answers (step (applyAll (start 0 0o10 0o060100000000) [fun s => { s with a := 0o000000000001, b := 0o000000000004 }])) (fun t => t.a == 0o000000000004 && (seqAt t 0).pc == 0o11) = true := by
  decide +kernel

theorem test_clc_v47_11 : answers (step (applyAll (start 0 0o10 0o070100000000) [setQ 0 (fun q => { q with cy := true })]))
    (fun t => (seqAt t 0).pc == 0o11 && (seqAt t 0).cy == false) = true := by
  decide +kernel

theorem test_sec_v47_12 : answers (step (applyAll (start 0 0o10 0o100100000000) [])) (fun t => (seqAt t 0).pc == 0o11 &&
    (seqAt t 0).cy == true) = true := by
  decide +kernel

theorem test_clo_v47_13 : answers (step (applyAll (start 0 0o10 0o110100000000) [setQ 0 (fun q => { q with ov := true })]))
    (fun t => (seqAt t 0).pc == 0o11 && (seqAt t 0).ov == false) = true := by
  decide +kernel

theorem test_hlt_v47_14 : answers (step (applyAll (start 0 0o10 0o160100000000) [fun s => { s with a := 0o000000000001 }]))
    (fun t => t.mode == .halted ⟨.explicitHalt, 0, 0o10, 0o160100000000, 0o000000000000⟩) = true := by
  decide +kernel

theorem test_sen_v48_1 : answers (step (applyAll (start 0 0o10 0o056000000000) [])) (fun t => (seqAt t 0).pc == 0o11 &&
    (seqAt t 5).en == true) = true := by
  decide +kernel

theorem test_sds_v48_4 : answers (step (applyAll (start 0 0o10 0o006100000000) [])) (fun t => (seqAt t 0).pc == 0o11 &&
    (seqAt t 0).en == false) = true := by
  decide +kernel

theorem test_sds_v48_5 : answers (step (applyAll (start 0 0o10 0o106100000000) [fun s => { s with params := { Params.default with nseq := 8 } }])) (fun t => t.mode == .halted ⟨.addressFault, 0, 0o10, 0o106100000000, 0o000000000010⟩) = true := by
  decide +kernel

theorem test_spr_v48_7 : answers (step (applyAll (start 0 0o10 0o056200000400) [setQ 5 (fun q => { q with prio := 0o3 })]))
    (fun t => (seqAt t 0).pc == 0o11 && (seqAt t 5).prio == 0o0) = true := by
  decide +kernel

theorem test_spr_v48_8 : answers (step (applyAll (start 0 0o10 0o026201000000) [setX 1 0o777777])) (fun t => (seqAt t 0).pc == 0o11 &&
    (seqAt t 2).prio == 0o377) = true := by
  decide +kernel

theorem test_spc_v48_11 : answers (step (applyAll (start 0 0o10 0o006300000400) [])) (fun t => (seqAt t 0).pc == 0o400) = true := by
  decide +kernel

theorem test_spc_v48_14 : answers (step (applyAll (start 0 0o10 0o116300001000) [fun s => { s with params := { Params.default with memSize := 512, nseq := 8 } }])) (fun t => t.mode == .halted ⟨.addressFault, 0, 0o10, 0o116300001000, 0o000000000011⟩) = true := by
  decide +kernel

theorem test_rss_v48_15 : answers (step (applyAll (start 0 0o10 0o056400000000) [setQ 0 (fun q => { q with prio := 0o12 }),
    setQ 5 (fun q => { q with pc := 0o300, en := true, ov := false, cy := true, prio := 0o7 })])) (fun t => t.a == 0o500007000300 &&
    (seqAt t 0).pc == 0o11) = true := by
  decide +kernel

theorem test_rss_v48_16 : answers (step (applyAll (start 0 0o10 0o006400000000) [setQ 0 (fun q => { q with ov := true, prio := 0o377 })])) (fun t => t.a == 0o600377000010 && (seqAt t 0).pc == 0o11) = true := by
  decide +kernel

theorem test_ras_v48_17 : answers (step (applyAll (start 0 0o10 0o006500000000) [fun s => { s with asr := { valid := true, kind := 0o2, seq := 0o0, pc := 0o12, word := 0o001000001000, info := 0o000000001000 } }])) (fun t => t.a == 0o500000000012 && (seqAt t 0).pc == 0o11) = true := by
  decide +kernel

theorem test_ras_v48_19 : answers (step (applyAll (start 0 0o10 0o026500000000) [fun s => { s with asr := { valid := true, kind := 0o2, seq := 0o0, pc := 0o12, word := 0o001000001000, info := 0o000000001000 } }])) (fun t => t.a == 0o000000001000 && (seqAt t 0).pc == 0o11) = true := by
  decide +kernel

theorem test_dis_v48_20 : answers (step (applyAll (start 0 0o10 0o130100000000) [setQ 1 (fun q => { q with en := true })]))
    (fun t => (seqAt t 0).pc == 0o11 && (seqAt t 0).en == false) = true := by
  decide +kernel

theorem test_rsi_v48_21 : answers (step (applyAll (start 3 0o10 0o120100000000) [])) (fun t => t.a == 0o000000000003 &&
    (seqAt t 3).pc == 0o11) = true := by
  decide +kernel

theorem test_ack_v48_22 : answers (step (applyAll (start 0 0o10 0o140100000000) [fun s => { s with asr := { valid := true, kind := 0o3, seq := 0o2, pc := 0o40, word := 0o5, info := 0o100 } }])) (fun t => (seqAt t 0).pc == 0o11 && t.asr.valid == false) = true := by
  decide +kernel

theorem test_rdt_v49_3 : answers (step (applyAll (start 0 0o10 0o007000000400) [fun s => { s with a := 0o000000000011, tapeIn := [0o7, 0o11], tc := 2 }])) (fun t => (seqAt t 0).pc == 0o400) = true := by
  decide +kernel

theorem test_rdt_v49_5 : answers (step (applyAll (start 0 0o10 0o007000001000) [fun s => { s with tapeIn := [0o5], tc := 0, params := { Params.default with memSize := 512 } }])) (fun t => t.a == 0o000000000005 && (seqAt t 0).pc == 0o11 && t.tc == 0o1) = true := by
  decide +kernel

theorem test_pch_v49_8 : answers (step (applyAll (start 0 0o10 0o150100000000) [fun s => { s with a := 0o000000000052 }]))
    (fun t => (seqAt t 0).pc == 0o11 && t.punch == [0o52]) = true := by
  decide +kernel

theorem test_fetch_fault : answers (step (applyAll (start 0 0o1000 0) [fun s => { s with params := { Params.default with memSize := 512 } }])) (fun t => t.mode == .halted ⟨.addressFault, 0, 0o1000, 0o000000000000, 0o000000001000⟩) = true := by
  decide +kernel

theorem test_fetch_fault_caught :
    answers (step (applyAll (start 0 0o1000 0) [fun s => { s with params := { Params.default with memSize := 512, handlerAddr := some 1 } }, setQ 1 (fun q => { q with pc := 0o40 })])) (fun t => (seqAt t 0).en == false && (seqAt t 1).en == true && t.asr.valid == true && t.asr.kind == 0o2 && t.asr.pc == 0o1000 && t.asr.info == 0o000000001000) = true := by
  decide +kernel

theorem test_second_alarm_fatal :
    answers (step (applyAll (start 0 0o10 0o001001000000) [fun s => { s with asr := { valid := true, kind := 0o3, seq := 0o2, pc := 0o40, word := 0o5, info := 0o100 }, params := { Params.default with handlerAddr := some 1 } }, setX 1 0o777777])) (fun t => t.mode == .halted ⟨.addressFault, 0, 0o10, 0o001001000000, 0o777777777777⟩) = true := by
  decide +kernel

theorem test_alarm_caught : answers (step (applyAll (start 2 0o10 0o001001000000) [fun s => { s with b := 0o000000000007, params := { Params.default with handlerAddr := some 1 } }, setX 1 0o777777])) (fun t => (seqAt t 1).en == true && (seqAt t 2).en == false && t.asr.valid == true && t.asr.kind == 0o2 && t.asr.seq == 0o2 && t.asr.pc == 0o10 && t.asr.word == 0o001001000000 && t.asr.info == 0o777777777777) = true := by
  decide +kernel

/-! ### Boot (95_test_vectors.md §5), placing a word, running an image -/

theorem test_boot_short : answers (step (State.initial Params.default [0o100, 0o1]))
    (fun t => t.mode == .halted ⟨.bootImageInvalid, 0, 0, 0, 0⟩) = true := by
  decide +kernel

theorem test_boot_block_out_of_range :
    answers (step (State.initial { Params.default with memSize := 512 } [0o776, 0o3, 0o160100000000, 0o160100000000, 0o160100000000, 0o776]))
      (fun t => t.mode == .halted ⟨.addressFault, 0, 0, 0, 0o001001⟩) = true := by
  decide +kernel

theorem test_boot_loads :
    answers (step (State.initial { Params.default with bootSeq := 3 } [0o100, 0o1, 0o160100000000, 0o100, 0o5, 0o6]))
      (fun t => t.mode == .running && t.mem.read 0o100 == 0o160100000000 && seqAt t 3 == { SeqRec.reset with pc := 0o100, en := true } &&
        t.tapeIn == [0o5, 0o6] && t.tc == 0) = true := by
  decide +kernel

/-- 95_test_vectors.md, the minimal image: one cycle, then the explicit halt. -/
theorem test_minimal_image :
    runImage Params.default [0o100, 0o1, 0o160100000000, 0o100] 2 = some ⟨.explicitHalt, 0, 0o100, 0o160100000000, 0⟩ := by
  decide +kernel

theorem test_reset_has_no_image : answers (step State.reset)
    (fun t => t.mode == .halted ⟨.bootImageInvalid, 0, 0, 0, 0⟩) = true := by decide +kernel

theorem test_withFetchWord_runs : answers (step (State.reset.withFetchWord 36 0o001500030071)) (fun t => t.a == 12345 &&
    (seqAt t 0).pc == 1) = true := by
  decide +kernel

theorem test_decodeTableWord : decodeTableWord 36 0o001500030071 = some (.lia 0 12345) ∧ decodeTableWord 36 0 = none ∧
    decodeTableWord 36 (2 ^ 36) = none := by
  decide +kernel

/-- The event of `LDA @0o100` (95_test_vectors.md V41-4; 10_state.md R82). -/
theorem test_event_lda :
    diagnosticEvent (applyAll (start 0 0o10 0o001000400100) [setM 0o100 0o777777000200, setM 0o200 0o42]) =
      some (.cycle ⟨0, 0, 0o10, 0o001000400100, some (.lda 0 true 0o100), [.a 0 0o42, .seqPc 0 0o10 0o11]⟩) := by
  decide +kernel

/-- `WORD -1`, and an operand that fits no word (30_encoding.md R173). -/
theorem test_assemble : assembleWords [.instr .hlt, .word (-1)] = some [0o160100000000, 0o777777777777] ∧
    assembleWord (.word (2 ^ 36)) = none := by
  decide +kernel

/-! ### Witnesses: concrete states and operands that meet the hypotheses of the statements, clause by clause, at the ends of their ranges -/

open Sys2Proof.Claims

/-- Sequence 0 live at 0o10 of a memory of 512 words, sequence 1 enabled at rank 0 too, X[1] = -1, X[2] = 1, and indirect words for the address
511 and for 512, which is none. The word at 0o10 is `w`. -/
def wit (w : Word) : State :=
  applyAll (start 0 0o10 w)
    [fun s => { s with params := { Params.default with memSize := 512, handlerAddr := some 1, handlerArith := some 2 } },
     setX 1 0o777777, setX 2 1, setM 0o100 0o777, setM 0o101 0o1000, setQ 1 fun q => { q with en := true }]

/-- `wit 0` with the value `a` in A and the word `m` at address 511. -/
def witA (a m : Word) : State := applyAll (wit 0) [setM 511 m, fun s => { s with a := a }]

/-- `wit 0` with both flags of the live sequence set. -/
def witFlags : State := applyAll (wit 0) [setQ 0 fun q => { q with ov := true, cy := true }]

/-- `wit 0` with one word on the tape. -/
def witTape : State := applyAll (wit 0) [fun s => { s with tapeIn := [5] }]

/-- The hypotheses of `MemoryLaw byIndex` and of `TransferLaw byIndex`, at the addresses -1, 0, 511 and 512. -/
abbrev IndexForms (s : State) (cur : SeqId) : Prop :=
  select s = some cur ∧ ¬ IsAddress s (byIndex.ea0 s 1 0) ∧ ¬ IsAddress s (byIndex.ea0 s 0 512) ∧
  (byIndex.ea s 0 false 512 = .ok 512 ∧ byIndex.ea s 0 true 0o101 = .ok 512 ∧ ¬ IsAddress s 512) ∧
  (byIndex.ea s 1 false 0 = .ok (-1) ∧ ¬ IsAddress s (-1)) ∧
  (byIndex.ea s 0 false 511 = .ok 511 ∧ byIndex.ea s 0 true 0o100 = .ok 511 ∧ IsAddress s 511) ∧
  (byIndex.ea s 1 false 1 = .ok 0 ∧ IsAddress s 0)

/-- The hypotheses of `MemoryLaw byAddress` and of `TransferLaw byAddress`, at the addresses 0, 511 and 512. -/
abbrev AddressForms (s : State) (cur : SeqId) : Prop :=
  select s = some cur ∧ ¬ IsAddress s (byAddress.ea0 s 1 512) ∧
  (byAddress.ea s 1 false 512 = .ok 512 ∧ byAddress.ea s 1 true 0o101 = .ok 512 ∧ ¬ IsAddress s 512) ∧
  (byAddress.ea s 1 false 511 = .ok 511 ∧ byAddress.ea s 1 true 0o100 = .ok 511 ∧ IsAddress s 511) ∧
  (byAddress.ea s 1 false 0 = .ok 0 ∧ IsAddress s 0)

theorem witness_DecodeInvertsEncode : (Instr.ras 2).wellFormed = true ∧ (Instr.ras 3).wellFormed = false ∧
    decode 0o026500000000 = .ok (.ras 2) := by decide +kernel

theorem witness_TableRowsAreTheLegalWords : (∃ r ∈ opcodeTable, r.encodes 0o026500000000 = true) ∧ (∃ i, decode 0o026500000000 = .ok i) ∧
    ∀ r ∈ opcodeTable, r.encodes 0o036500000000 = false :=
  ⟨by decide +kernel, ⟨.ras 2, by decide +kernel⟩, by decide +kernel⟩

theorem live_wit {s : State} {cur : SeqId} (h : s.params.legal = true ∧ s.mode = .running ∧ select s = some cur) :
    Live s cur := ⟨h.1, h.2.1, h.2.2⟩

theorem witness_IllegalWordsHaltTheRun : Live (wit 0o036500000000) 0 ∧ (seqAt (wit 0o036500000000) 0).pc.toNat < 512 ∧
    ∃ e, decode ((wit 0o036500000000).mem.read (seqAt (wit 0o036500000000) 0).pc.toNat) = .error e :=
  ⟨live_wit (by decide +kernel), by decide +kernel, .reservedSelector, by decide +kernel⟩

theorem witness_IllegalWordsHaltTheRun_cases : fieldOp 0o007700000000 ∈ reservedOpcodes ∧ (fieldOp 0o170100000000 = 0o01 ∧
    (fieldC 0o170100000000).toNat = 0o17) ∧
    (fieldOp 0o036500000000 = 0o65 ∧ (fieldC 0o036500000000).toNat = 3) ∧ (fieldOp 0o001500400005 = 0o15 ∧ opcodeClass 0o15 = some .i ∧
    mbzZero .i (fieldC 0o001500400005) (fieldJ 0o001500400005) (fieldD 0o001500400005) (fieldY 0o001500400005) = false) := by decide +kernel

theorem witness_ZeroWordIsIllegal : Live (wit 0) 0 ∧ (seqAt (wit 0) 0).pc.toNat < 512 ∧ (wit 0).mem.read (seqAt (wit 0) 0).pc.toNat = 0 :=
  ⟨live_wit (by decide +kernel), by decide +kernel, by decide +kernel⟩

theorem witness_StepRunsTheDecodedInstruction : Live (wit 0o000100000000) 0 ∧ (seqAt (wit 0o000100000000) 0).pc.toNat < 512 ∧
    decode ((wit 0o000100000000).mem.read (seqAt (wit 0o000100000000) 0).pc.toNat) = .ok .nop :=
  ⟨live_wit (by decide +kernel), by decide +kernel, by decide +kernel⟩

theorem witness_SchedulerPicksHighestRankThenLowestId : (wit 0).params.nseq = 64 ∧ select (wit 0) = some 0 ∧
    (seqAt (wit 0) 1).en = true ∧ (seqAt (wit 0) 1).prio = (seqAt (wit 0) 0).prio ∧
    select (applyAll (wit 0) [setQ 1 fun q => { q with prio := 1 }]) = some 1 ∧ select State.reset = none := by decide +kernel

theorem witness_NoRunnableSequenceHalts : (applyAll (wit 0) [setQ 0 fun q => { q with en := false },
    setQ 1 fun q => { q with en := false }]).params.legal = true ∧ (applyAll (wit 0) [setQ 0 fun q => { q with en := false },
    setQ 1 fun q => { q with en := false }]).mode = .running ∧ select (applyAll (wit 0) [setQ 0 fun q => { q with en := false },
    setQ 1 fun q => { q with en := false }]) = none := by decide +kernel

theorem witness_FetchFaultsOutsideMemory : (Live (applyAll (wit 0) [setQ 0 fun q => { q with pc := 512 }]) 0 ∧
    512 ≤ (seqAt (applyAll (wit 0) [setQ 0 fun q => { q with pc := 512 }]) 0).pc.toNat) ∧
    (Live (applyAll (wit 0) [setQ 0 fun q => { q with pc := 511 }]) 0 ∧
    (seqAt (applyAll (wit 0) [setQ 0 fun q => { q with pc := 511 }]) 0).pc.toNat < 512) :=
  ⟨⟨live_wit (by decide +kernel), by decide +kernel⟩, ⟨live_wit (by decide +kernel), by decide +kernel⟩⟩

theorem witness_HaltedIsTerminal : (halt (wit 0) ⟨.explicitHalt, 0, 0o10, 0, 0⟩).mode = .halted ⟨.explicitHalt, 0, 0o10, 0, 0⟩ :=
  rfl

theorem witness_IllegalParametersHaveNoRun : ({ Params.default with memSize := 131073 } : Params).legal = false ∧
    ({ Params.default with nseq := 0 } : Params).legal = false ∧ ({ Params.default with nseq := 8, bootSeq := 8 } : Params).legal = false ∧
    ({ Params.default with nseq := 8, handlerAddr := some 8 } : Params).legal = false ∧
    ({ Params.default with memSize := 1, nseq := 1 } : Params).legal = true ∧ Params.default.legal = true := by decide +kernel

theorem witness_CyclesCountLiveSteps_running : (wit 0o000100000000).mode = .running ∧ ∃ t, step (wit 0o000100000000) = .next t :=
  ⟨by decide +kernel, (next_of_answers (p := fun _ => true) (by decide +kernel)).imp fun _ h => h.1⟩

theorem witness_CyclesCountLiveSteps_booting : State.reset.mode = .booting ∧ ∃ t, step State.reset = .next t :=
  ⟨by decide +kernel, (next_of_answers (p := fun _ => true) (by decide +kernel)).imp fun _ h => h.1⟩

theorem witness_CyclesCountLiveSteps_halt : ∃ s, step (State.initial Params.default [0o100, 1, 0o160100000000, 0o100]) = .next s ∧
    (s.mode == .running && s.mem.read (seqAt s Params.default.bootSeq).pc.toNat == 0o160100000000) = true :=
  next_of_answers (by decide +kernel)

theorem witness_CyclesCountLiveSteps_exec : ∃ t, exec .nop (wit 0) = .next t := ⟨_, rfl⟩

/-- A step that commits. -/
theorem witness_EventsListTheWritesApplied_commit : (wit 0o000100000000).mode = .running ∧ ∃ t, step (wit 0o000100000000) = .next t ∧
    (t.mode == .running) = true :=
  ⟨by decide +kernel, next_of_answers (by decide +kernel)⟩

/-- A step that switches to a handler: `LDA 512` in 512 words. -/
theorem witness_EventsListTheWritesApplied_switch : (wit 0o001000001000).mode = .running ∧
    ∃ t, step (wit 0o001000001000) = .next t ∧ (t.mode == .running && t.asr.valid) = true :=
  ⟨by decide +kernel, next_of_answers (by decide +kernel)⟩

theorem witness_EventsListTheWritesApplied_halt :
    ∃ t, step (wit 0o160100000000) = .next t ∧ (t.mode == .halted ⟨.explicitHalt, 0, 0o10, 0o160100000000, 0⟩) = true :=
  next_of_answers (by decide +kernel)

theorem inv_wit : Inv (wit 0o000100000000) where
  legal := by decide +kernel
  memWf := by decide +kernel
  memBound := by decide +kernel
  xZero := by decide +kernel
  pcBound := by decide +kernel
  absent := fun n hn => absurd n.isLt (Nat.not_lt.mpr hn)
  tape := by decide +kernel
  asrKind := by decide +kernel
  asrRaised := by decide +kernel
  asrSeq := by decide +kernel
  asrPc := by decide +kernel
  booting := by intro h; cases h

theorem witness_StepKeepsTheInvariant : Inv (wit 0o000100000000) ∧ ∃ t, step (wit 0o000100000000) = .next t :=
  ⟨inv_wit, (next_of_answers (p := fun _ => true) (by decide +kernel)).imp fun _ h => h.1⟩

theorem witness_ResetMeetsTheInvariant : Params.default.legal = true := by decide +kernel

/-- `SEN 2` by sequence 0: sequence 1 is not named. -/
theorem witness_SequencesNotLiveAreUnchanged : (wit 0o026000000000).mode = .running ∧ select (wit 0o026000000000) = some 0 ∧
    (∃ t, step (wit 0o026000000000) = .next t) ∧ (1 : SeqId) ≠ 0 ∧ decode (fetchedWord (wit 0o026000000000) 0) = .ok (.sen 2) :=
  ⟨by decide +kernel, by decide +kernel, (next_of_answers (p := fun _ => true) (by decide +kernel)).imp fun _ h => h.1, by decide, by decide +kernel⟩

theorem witness_FlagsOfOtherSequencesAreKept : (wit 0o004000000100).mode = .running ∧ select (wit 0o004000000100) = some 0 ∧
    (∃ t, step (wit 0o004000000100) = .next t) ∧ (1 : SeqId) ≠ 0 :=
  ⟨by decide +kernel, by decide +kernel, (next_of_answers (p := fun _ => true) (by decide +kernel)).imp fun _ h => h.1, by decide⟩

theorem witness_OnlyStoresChangeMemory : ∃ t, exec (.lda 0 false 511) (wit 0) = .next t := ⟨_, rfl⟩

theorem witness_AsrChangesOnlyByAckOrCaughtAlarm :
    (∃ t, exec (.lda 0 false 512) (wit 0) = .next t ∧ (t.asr != (wit 0).asr) = true) ∧
    ∃ t, exec .ack (applyAll (wit 0) [fun s => { s with asr := { valid := true, kind := 2, seq := 1, pc := 0, word := 0, info := 0 } }]) = .next t ∧
      (t.asr == { valid := false, kind := 2, seq := 1, pc := 0, word := 0, info := 0 }) = true :=
  ⟨next_of_answers (by decide +kernel), next_of_answers (by decide +kernel)⟩

theorem witness_TapeAndPunchChangeOnlyByTheirInstructions :
    (∃ t, exec (.rdt 0 false 0) (applyAll (wit 0) [fun s => { s with tapeIn := [5] }]) = .next t ∧ (t.tc == 1) = true) ∧
    ∃ t, exec .pch (wit 0) = .next t ∧ (t.punch == [0]) = true :=
  ⟨next_of_answers (by decide +kernel), next_of_answers (by decide +kernel)⟩

theorem witness_HaltsApplyNothingElse :
    (∃ t, step (wit 0o160100000000) = .next t ∧ (t.mode == .halted ⟨.explicitHalt, 0, 0o10, 0o160100000000, 0⟩) = true) ∧
    State.reset.mode = .booting ∧ (∃ t, step State.reset = .next t) ∧
    bootCheck State.reset.params State.reset.image = .error ⟨.bootImageInvalid, 0, 0, 0, 0⟩ :=
  ⟨next_of_answers (by decide +kernel), by decide +kernel, (next_of_answers (p := fun _ => true) (by decide +kernel)).imp fun _ h => h.1, rfl⟩

theorem witness_IndexRegisterZero : (1 : IndexId) ≠ 0 ∧ (63 : IndexId) ≠ 0 ∧ (2 : IndexId) ≠ 1 := by decide

/-- Images that fail each check of R711 at its boundary, with 512 words of memory; the last passes them all. -/
theorem witness_BootChecksInOrder :
    ({ Params.default with memSize := 512 } : Params).legal = true ∧ ([0o100, 0] : List Word).length < 3 ∧ 2 ^ 17 ≤ (0o400000 :
    Word).toNat ∧
    ([0o377777, 1, 0] : List Word).length < 3 + 1 ∧ (2 ^ 17 ≤ (0o400000 : Word).toNat ∧ 3 + 0 ≤ ([0o100, 0, 0o400000] : List Word).length) ∧
    (512 < 511 + 2 ∧ 3 + 2 ≤ ([511, 2, 0, 0, 0] : List Word).length) ∧ (510 + 2 ≤ 512 ∧ 512 ≤ (512 : Word).toNat ∧
    3 + 2 ≤ ([510, 2, 0, 0, 512] : List Word).length) := by
  decide

/-- A block that ends with memory, and an entry at its last word, without a tail; and an empty block with a tail. -/
theorem witness_BootLoadsTheImage :
    ({ Params.default with memSize := 512 } : Params).legal = true ∧
    (3 + 2 ≤ ([510, 2, 0, 0, 511] : List Word).length ∧ 510 + 2 ≤ 512 ∧ (511 : Word).toNat < 512 ∧ (510 : Word).toNat < 2 ^ 17) ∧
    (3 + 0 ≤ ([512, 0, 0, 7] : List Word).length ∧ 512 + 0 ≤ 512 ∧ (0 : Word).toNat < 512 ∧ (512 : Word).toNat < 2 ^ 17) := by
  decide

theorem witness_AssembledImageBoots :
    Params.default.legal = true ∧ assembleWords [.instr .hlt, .word (-1)] = some [0o160100000000, 0o777777777777] ∧
    assemble 0o100 0o101 [.instr .hlt, .word (-1)] [7] = some [0o100, 2, 0o160100000000, 0o777777777777, 0o101, 7] ∧
    (0o100 : AddrField).toNat + 2 ≤ Params.default.memSize ∧ (0o101 : AddrField).toNat < Params.default.memSize := by
  decide +kernel

theorem witness_AlarmSwitchesOrHalts :
    (alarmHandler (wit 0) .addressFault = some 1 ∧ (1 : SeqId) ≠ 0 ∧ (wit 0).asr.valid = false) ∧
    (∀ h, alarmHandler (wit 0) .addressFault = some h → h = 1 ∨ (wit 0).asr.valid = true) ∧
    (∀ h, alarmHandler (wit 0) .illegalInstruction = some h → h = 0 ∨ (wit 0).asr.valid = true) :=
  ⟨by decide +kernel, fun h e => .inl (Option.some.inj e).symm, fun h e => by cases e⟩

theorem witness_SecondAlarmAndOwnAlarmAreFatal :
    alarmHandler (wit 0) .arithmeticFault = some 2 ∧
    (applyAll (wit 0) [fun s => { s with asr := { valid := true, kind := 2, seq := 1, pc := 0, word := 0, info := 0 } }]).asr.valid = true := by
  decide +kernel

/-- NSEQ = 8: the id 8 is out of range, 7 is not. -/
theorem witness_SequenceIdOutOfRangeFaults :
    select (applyAll (wit 0) [fun s => { s with params := { s.params with nseq := 8 } }]) = some 0 ∧ 8 ≤ (8 : SeqId).toNat ∧
    (wit 0).params.nseq = 64 := by
  decide +kernel

theorem witness_EffectiveAddressRules : IsAddress (wit 0) 0 ∧ IsAddress (wit 0) 511 ∧ ¬ IsAddress (wit 0) 512 ∧
    ¬ IsAddress (wit 0) (-1) := by decide +kernel

theorem witness_LoadRules : IndexForms (wit 0) 0 := by decide +kernel

theorem witness_StoreRules : IndexForms (wit 0) 0 ∧ (wit 0).mem.wf = true := by decide +kernel

theorem witness_ImmediateLoadRules : select (wit 0) = some 0 := by decide +kernel

theorem witness_IndexLoadStoreRules : AddressForms (wit 0) 0 ∧ (wit 0).mem.wf = true := by decide +kernel

theorem witness_IndexRegisterRules : select (wit 0) = some 0 := by decide +kernel

/-- X[2] = 1 is taken, X[0] = 0 and X[1] = -1 are not. -/
theorem witness_DecrementAndJumpRule : AddressForms (wit 0) 0 ∧ 0 < (readX (wit 0) 2).toInt ∧ ¬ 0 < (readX (wit 0) 0).toInt ∧
    ¬ 0 < (readX (wit 0) 1).toInt := by decide +kernel

/-- A = 0, 1 and -1 take and leave each transfer. -/
theorem witness_JumpRules : IndexForms (wit 0) 0 ∧ (wit 0).a = 0 ∧ ¬ (0 : Word).toInt < 0 ∧ ¬ 0 < (0 : Word).toInt := by decide +kernel

theorem witness_JumpRules_positive : IndexForms (witA 1 0) 0 ∧ (witA 1 0).a ≠ 0 ∧ 0 < (witA 1 0).a.toInt := by decide +kernel

theorem witness_JumpRules_negative : IndexForms (witA (-1) 0) 0 ∧ (witA (-1) 0).a ≠ 0 ∧ (witA (-1) 0).a.toInt < 0 := by decide +kernel

theorem witness_FlagJumpRules : IndexForms (wit 0) 0 ∧ (seqAt (wit 0) 0).ov = false ∧ (seqAt (wit 0) 0).cy = false ∧
    IndexForms witFlags 0 ∧ (seqAt witFlags 0).ov = true ∧ (seqAt witFlags 0).cy = true := by decide +kernel

theorem witness_SubroutineJumpRule : AddressForms (wit 0) 0 := by decide +kernel

theorem witness_WrappingArithmeticRules : IndexForms (wit 0) 0 := by decide +kernel

/-- The largest and the smallest A with 1 at address 511: ADV alarms in the first state alone, SBV in the second alone. -/
theorem witness_TrappingArithmeticRules : IndexForms (wit 0) 0 ∧ IndexForms (witA 0o377777777777 1) 0 ∧
    Overflows ((witA 0o377777777777 1).a.toInt + ((witA 0o377777777777 1).mem.read 511).toInt) ∧
    ¬ Overflows ((witA 0o377777777777 1).a.toInt - ((witA 0o377777777777 1).mem.read 511).toInt) := by decide +kernel

theorem witness_TrappingArithmeticRules_smallest : IndexForms (witA 0o400000000000 1) 0 ∧
    ¬ Overflows ((witA 0o400000000000 1).a.toInt + ((witA 0o400000000000 1).mem.read 511).toInt) ∧
    Overflows ((witA 0o400000000000 1).a.toInt - ((witA 0o400000000000 1).mem.read 511).toInt) := by decide +kernel

theorem witness_MultiplyRule : IndexForms (wit 0) 0 := by decide +kernel

/-- A zero divisor at address 0; -1 at address 511 with the smallest A, and with the next one. -/
theorem witness_DivideRule : IndexForms (wit 0) 0 ∧ ((wit 0).mem.read 0).toInt = 0 ∧ IndexForms (witA 0o400000000000 (-1)) 0 ∧
    ((witA 0o400000000000 (-1)).a.toInt = -(2 ^ 35) ∧ ((witA 0o400000000000 (-1)).mem.read 511).toInt = -1) := by decide +kernel

theorem witness_DivideRule_completes : IndexForms (witA 0o400000000001 (-1)) 0 ∧
    ¬ (((witA 0o400000000001 (-1)).mem.read 511).toInt = 0 ∨ ((witA 0o400000000001 (-1)).a.toInt = -(2 ^ 35) ∧
    ((witA 0o400000000001 (-1)).mem.read 511).toInt = -1)) := by decide +kernel

theorem witness_LogicRules : IndexForms (wit 0) 0 := by decide +kernel

theorem witness_ShiftRules : select (wit 0) = some 0 := by decide +kernel

theorem witness_RotateRules : select (wit 0) = some 0 := by decide +kernel

theorem witness_SkipRules : IndexForms (wit 0) 0 ∧ (wit 0).a = (wit 0).mem.read 0 ∧ (wit 0).a ≠ (wit 0).mem.read 0o100 ∧
    (wit 0).a.toInt < ((wit 0).mem.read 0o100).toInt ∧
    ¬ ((wit 0).mem.read 0o100).toInt < (wit 0).a.toInt := by decide +kernel

theorem witness_OperateRules : select (wit 0) = some 0 := by decide +kernel

theorem witness_ExplicitHaltRule : select (wit 0) = some 0 := by decide +kernel

theorem witness_PunchRule : select (wit 0) = some 0 := by decide +kernel

/-- The live sequence, another one, and the highest id. -/
theorem witness_SequenceControlRules : select (wit 0) = some 0 ∧ (0 : SeqId).toNat < (wit 0).params.nseq ∧ (63 :
    SeqId).toNat < (wit 0).params.nseq := by decide +kernel

theorem witness_LiveSequenceRules : select (wit 0) = some 0 ∧ (0 : SeqId).toNat < (wit 0).params.nseq := by decide +kernel

theorem witness_SetProgramCounterRule : IndexForms (wit 0) 0 ∧ (0 : SeqId).toNat < (wit 0).params.nseq ∧ (63 :
    SeqId).toNat < (wit 0).params.nseq := by decide +kernel

theorem witness_ReadSequenceStatusRule : select (wit 0) = some 0 ∧ (63 : SeqId).toNat < (wit 0).params.nseq := by decide +kernel

theorem witness_ReadAlarmStatusRule : select (wit 0) = some 0 ∧ 3 ≤ (3 : Config6).toNat := by decide +kernel

/-- A tape with a word left, and one at its end. -/
theorem witness_ReadTapeRule : IndexForms (wit 0) 0 ∧ (wit 0).tapeIn.length ≤ (wit 0).tc ∧ IndexForms witTape 0 ∧
    ¬ witTape.tapeIn.length ≤ witTape.tc := by decide +kernel

end Sys2Proof.Tests
end

