-- ==== Sys2Proof/Proofs/Scope.lean ====
section
/-! PROOFS. The legal parameter sets and the refusal to run under any other (00_scope.md R11, R13). -/

namespace Sys2Proof.Proofs
open Sys2Proof.Machine

/-- A handler parameter's check (R11): vacuous where there is none. -/
theorem handler_all_iff (handler : Option SeqId) (nseq : Nat) :
    handler.all (fun h => h.toNat < nseq) = true ↔ ∀ h, handler = some h → h.toNat < nseq := by
  simp only [Option.all_eq_true, decide_eq_true_eq]

/-- R11's table of legal values, row by row. -/
theorem legal_iff (p : Params) : p.legal = true ↔
    (1 ≤ p.memSize ∧ p.memSize ≤ 131072) ∧ (1 ≤ p.nseq ∧ p.nseq ≤ 64) ∧ p.bootSeq.toNat < p.nseq ∧
    (∀ h, p.handlerAddr = some h → h.toNat < p.nseq) ∧ (∀ h, p.handlerArith = some h → h.toNat < p.nseq) := by
  simp only [Params.legal, Bool.and_eq_true, decide_eq_true_eq, handler_all_iff, Nat.reducePow, and_assoc]

/-- R13: under an illegal parameter set the step is refused, whatever the mode. -/
theorem step_illegalParameters {s : State} (hl : s.params.legal = false) : step s = .refused .illegalParameters := by
  simp [step, hl]

/-- Settles O11: the table of R11 is `legal_iff`, and a refusal is not a next state. -/
theorem illegalParametersHaveNoRun : Obligations.IllegalParametersHaveNoRun := by
  refine ⟨legal_iff, fun s t hl hnext => ?_⟩
  rw [step_illegalParameters hl] at hnext
  cases hnext

end Sys2Proof.Proofs
end

section
/-! PROOFS. The index register that is always 0, who writes the alarm status registers, and the sequence status word (10_state.md R45, R46,
R61, R65). -/

namespace Sys2Proof.Proofs
open Sys2Proof.Machine Sys2Proof.Laws

/-! ### X[0] (R45, R46) -/

/-- Indexing by X[0] adds nothing, so EA of the indexed form is EA of the plain one. -/
theorem eaIndexed_zero (s : State) (d : Bool) (y : AddrField) : eaIndexed s 0 d y = eaPlain s d y := by
  have hea0 : indexed s 0 y = (y.toNat : Int) := by simp [indexed]
  unfold eaIndexed eaPlain
  rw [hea0]

/-- A buffered write to X[0] at the head of a list is not seen. -/
theorem applyWrites_xZero (s : State) (v : IndexWord) (ws : List Write) : applyWrites s (.x 0 v :: ws) = applyWrites s ws := rfl

/-- A taken transfer that also writes X[0] ends its cycle as one that does not. -/
theorem finish_transfer_xZero (s : State) (cur : SeqId) (v : IndexWord) (ea : Int) :
    finish s cur (transferIf s true [.x 0 v] ea) = finish s cur (transferIf s true [] ea) := by
  simp only [transferIf, if_true]
  cases target s ea with
  | error x => rfl
  | ok t => simp only [ok_bind, pure_eq_ok, finish_ok, commit_jump, applyWrites_xZero]

/-- The link of `JSX 0` is discarded, and its address, not indexed, is the one that `JMP 0` forms. -/
theorem finish_jsx_zero (s : State) (cur : SeqId) (d : Bool) (y : AddrField) :
    finish s cur (effJsx 0 d y s cur) = finish s cur (effJmp 0 d y s cur) := by
  unfold effJsx effJmp
  rw [eaIndexed_zero]
  cases eaPlain s d y with
  | error x => rfl
  | ok ea => exact finish_transfer_xZero s cur _ ea

/-- The sum of `ADX 0` is discarded. -/
theorem finish_adx_zero (s : State) (cur : SeqId) (y : AddrField) : finish s cur (effAdx 0 y s cur) = finish s cur (effNop s cur) := by
  simp only [effAdx, effNop, finish_ok, commit_advance, applyWrites_xZero]

/-- Instructions whose cycles end alike, whichever sequence is live, have the same meaning. -/
theorem exec_congr {i k : Instr} {s : State} (h : ∀ cur, finish s cur (effectsOf i s cur) = finish s cur (effectsOf k s cur)) :
    exec i s = exec k s := by
  rw [exec_eq_runLive, exec_eq_runLive]
  unfold runLive
  cases select s with
  | none => rfl
  | some cur => exact congrArg Host.Outcome.next (h cur)

/-- Settles O23: the reads and writes of X by its two access rules; `JSX 0` and `ADX 0` since the only write that sets them apart from `JMP 0`
and NOP is one to X[0]. -/
theorem indexRegisterZero : Obligations.IndexRegisterZero :=
  ⟨readX_zero, writeX_zero, fun _ _ _ hj => ⟨readX_writeX_self hj, fun _ hk => readX_writeX_ne hk⟩,
    fun s d y => exec_congr fun cur => finish_jsx_zero s cur d y,
    fun s y => exec_congr fun cur => finish_adx_zero s cur y⟩

/-! ### Instructions that only load A -/

/-- An instruction whose effect set is a write of A: A and the pc change, nothing else. -/
theorem exec_loadA {i : Instr} {s : State} {cur : SeqId} {w : Word} (hs : select s = some cur)
    (h : effectsOf i s cur = .ok (advanceWith [.a w])) : exec i s = .next { advance s cur with a := w } :=
  exec_advance hs h

/-! ### The writers of the ASR (R65) -/

/-- No buffered write that an instruction other than ACK may make touches the ASR. -/
theorem applyWrite_asr {i : Instr} (hi : i ≠ .ack) {s₀ : State} {cur : SeqId} (s : State) (w : Write) (hw : Allowed i s₀ cur w) :
    (applyWrite s w).asr = s.asr := by
  cases w with
  | asr v => exact hw.elim
  | asrValid v => exact absurd hw.1 hi
  | x j v => exact writeX_asr s j v
  | a | b | seqPc | seqEn | seqPrio | seqOv | seqCy | mem | tapeCursor | punch => rfl

/-- An instruction other than ACK that completes leaves the ASR as it was. -/
theorem commit_asr {i : Instr} (hi : i ≠ .ack) {s : State} {cur : SeqId} {e : Effects} (he : Admits i s cur e) :
    (commit s cur e).asr = s.asr := by
  have hws : (applyWrites s e.writes).asr = s.asr := applyWrites_frame State.asr (applyWrite_asr hi) s he.1
  rw [commit, commitWrites, applyWrites_append]
  exact hws

/-- The writes of a caught alarm are the switch to its handler (60_exceptions.md R610, R611). -/
theorem switchedTo_alarmWrites {s : State} {cur h : SeqId} (hne : h ≠ cur) (k : AlarmKind) (p : Pc) (w info : Word) :
    SwitchedTo s cur h k p w info (applyWrites s (alarmWrites k cur h p w info)) := by
  have hrec : seqAt (setSeq s cur { seqAt s cur with en := false }) h = seqAt s h := seqAt_setSeq_ne hne
  unfold SwitchedTo
  rw [← hrec]
  rfl

/-- An alarm that changes the ASR was caught, and is the switch. -/
theorem alarm_asr_ne {s : State} {k : AlarmKind} {cur : SeqId} {p : Pc} {w info : Word} (h : (alarm s k cur p w info).asr ≠ s.asr) :
    ∃ n, s.asr.valid = false ∧ n ≠ cur ∧ SwitchedTo s cur n k p w info (alarm s k cur p w info) := by
  rcases alarm_cases s k cur p w info with ⟨n, hcatch, heq⟩ | ⟨-, heq⟩
  · obtain ⟨-, hne, hvalid⟩ := catcher_some_iff.mp hcatch
    exact ⟨n, hvalid, hne, heq ▸ switchedTo_alarmWrites hne k p w info⟩
  · rw [heq] at h
    exact absurd (halt_asr s _) h

/-- ACK clears the valid bit and advances the pc, whichever sequence is live (48_sequence.md R528). -/
theorem exec_ack {s : State} {cur : SeqId} (hs : select s = some cur) :
    exec .ack s = .next { advance s cur with asr := { s.asr with valid := false } } :=
  exec_advance (ws := [.asrValid false]) hs rfl

/-- RAS with a selector of the table completes with a word in A, whichever sequence is live (48_sequence.md R525). -/
theorem exec_ras_completes {s : State} {cur : SeqId} (hs : select s = some cur) {k : Config6} (hk : k.toNat ≤ 2) :
    ∃ w : Word, exec (.ras k) s = .next { advance s cur with a := w } := by
  have hcases : k = 0 ∨ k = 1 ∨ k = 2 := by bv_omega
  rcases hcases with rfl | rfl | rfl
  · exact ⟨_, exec_loadA hs (effRas_status s cur)⟩
  · exact ⟨_, exec_loadA hs (effRas_word s cur)⟩
  · exact ⟨_, exec_loadA hs (effRas_info s cur)⟩

/-- An instruction other than ACK that changes the ASR raised an alarm that was caught. -/
theorem exec_asr_ne {i : Instr} (hi : i ≠ .ack) {s t : State} (h : exec i s = .next t) (hasr : t.asr ≠ s.asr) :
    ∃ (cur n : SeqId) (k : AlarmKind) (info : Word), select s = some cur ∧ s.asr.valid = false ∧ n ≠ cur ∧
      SwitchedTo s cur n k (seqAt s cur).pc (fetchedWord s cur) info t := by
  rcases exec_cases h with ⟨-, rfl⟩ | ⟨cur, hs, rfl⟩
  · exact absurd (halt_asr s _) hasr
  rcases finish_cases i s cur with ⟨e, -, he, hfin⟩ | ⟨k, info, -, -, hfin⟩ | ⟨-, hfin⟩
  · rw [hfin] at hasr
    exact absurd (commit_asr hi he) hasr
  · rw [hfin] at hasr ⊢
    obtain ⟨n, hvalid, hne, hsw⟩ := alarm_asr_ne hasr
    exact ⟨cur, n, k, info, hs, hvalid, hne, hsw⟩
  · rw [hfin] at hasr
    exact absurd (halt_asr s _) hasr

/-- ACK writes no field of the ASR but the valid bit, which it clears. -/
theorem exec_ack_asr {s t : State} (h : exec .ack s = .next t) (hasr : t.asr ≠ s.asr) : t.asr = { s.asr with valid := false } := by
  rcases exec_cases h with ⟨-, rfl⟩ | ⟨cur, hs, -⟩
  · exact absurd (halt_asr s _) hasr
  · rw [exec_ack hs] at h
    cases h
    rfl

/-- Settles O20: ACK clears the valid bit, and any other instruction that changes the ASR raised an alarm that was caught. -/
theorem asrChangesOnlyByAckOrCaughtAlarm : Obligations.AsrChangesOnlyByAckOrCaughtAlarm := by
  refine ⟨fun i s t h hasr => ?_, fun s cur hs => ⟨exec_ack hs, fun k hk => exec_ras_completes hs hk⟩⟩
  by_cases hi : i = .ack
  · subst hi
    exact .inl ⟨rfl, exec_ack_asr h hasr⟩
  · exact .inr (exec_asr_ne hi h hasr)

/-! ### The sequence status word (R61) -/

/-- The number of a sequence status word: its fields do not overlap and fit 36 bits. -/
theorem seqStatus_toNat (r : SeqRec) : (seqStatus r).toNat =
    r.en.toNat * 2 ^ 35 + r.ov.toNat * 2 ^ 34 + r.cy.toNat * 2 ^ 33 + r.prio.toNat * 2 ^ 18 + r.pc.toNat := by
  have hen := r.en.toNat_lt
  have hov := r.ov.toNat_lt
  have hcy := r.cy.toNat_lt
  have hprio := r.prio.isLt
  have hpc := r.pc.isLt
  simp only [seqStatus, BitVec.toNat_ofNat]
  omega

/-- A bit of a word, as a number. -/
theorem getLsbD_toNat (w : Word) (k : Nat) : (w.getLsbD k).toNat = w.toNat / 2 ^ k % 2 := Nat.toNat_testBit w.toNat k

/-- The `len` bits of a word from bit `k` on, as a number. -/
theorem extractLsb'_toNat_div (w : Word) (k len : Nat) : (w.extractLsb' k len).toNat = w.toNat / 2 ^ k % 2 ^ len := by
  rw [BitVec.extractLsb'_toNat, Nat.shiftRight_eq_div_pow]

/-- R61's layout, field by field from the top. -/
theorem seqStatus_fields (r : SeqRec) :
    (seqStatus r).getLsbD 35 = r.en ∧ (seqStatus r).getLsbD 34 = r.ov ∧ (seqStatus r).getLsbD 33 = r.cy ∧
    (seqStatus r).extractLsb' 26 7 = 0 ∧ (seqStatus r).extractLsb' 18 8 = r.prio ∧ (seqStatus r).extractLsb' 0 18 = r.pc := by
  have hen := r.en.toNat_lt
  have hov := r.ov.toNat_lt
  have hcy := r.cy.toNat_lt
  have hprio := r.prio.isLt
  have hpc := r.pc.isLt
  refine ⟨bool_eq_of_toNat ?en, bool_eq_of_toNat ?ov, bool_eq_of_toNat ?cy, BitVec.eq_of_toNat_eq (y := 0#7) ?zeros, BitVec.eq_of_toNat_eq ?prio,
    BitVec.eq_of_toNat_eq ?pc⟩
  case en | ov | cy => rw [getLsbD_toNat, seqStatus_toNat]; omega
  case zeros => rw [extractLsb'_toNat_div, seqStatus_toNat, BitVec.toNat_ofNat]; omega
  case prio | pc => rw [extractLsb'_toNat_div, seqStatus_toNat]; omega

/-- RSS of an existing sequence loads its status word (48_sequence.md R524). -/
theorem exec_rss {s : State} {cur n : SeqId} (hs : select s = some cur) (hn : n.toNat < s.params.nseq) :
    exec (.rss n) s = .next { advance s cur with a := seqStatus (seqAt s n) } := by
  have heff : effRss n s cur = .ok (advanceWith [.a (seqStatus (seqAt s n))]) := by
    unfold effRss
    rw [checkSeq_in hn]
    rfl
  exact exec_loadA hs heff

/-- Settles O54: the word is the status word of sequence n, whose fields are those of R61. -/
theorem readSequenceStatusRule : Obligations.ReadSequenceStatusRule := fun n =>
  ⟨rfl, fun s _ hs hn => ⟨seqStatus (seqAt s n), exec_rss hs hn, seqStatus_fields (seqAt s n)⟩⟩

end Sys2Proof.Proofs
end

section
/-! PROOFS. Which words the decoder accepts, and that decode and encode are inverse (30_encoding.md R141, R143, R145 to R148, R152). -/

namespace Sys2Proof.Proofs
open Sys2Proof.Machine Sys2Proof.Laws Sys2Proof.Claims

/-! ### The opcode map (R145, R146, R148) -/

/-- The opcodes without a class are the fourteen reserved ones (R145). -/
theorem opcodeClass_eq_none_iff (op : Opcode) : opcodeClass op = none ↔ op ∈ reservedOpcodes := by
  revert op
  decide

/-- C is reserved under the opcode: OPR with C of 0o17 or more, RAS with C of 3 or more (R148 (b), (c)). -/
def ReservedSubcode (op : Opcode) (c : Config6) : Prop := (op = 0o01 ∧ 0o17 ≤ c.toNat) ∨ (op = 0o65 ∧ 3 ≤ c.toNat)

/-- The fields spell an instruction: the opcode map has one for them, it is well-formed, and its word packs the same fields. -/
def Spells (op : Opcode) (c : Config6) (j : IndexId) (d : Bool) (y : AddrField) : Prop :=
  ∃ i, decodeOpcode op c j d y = .ok i ∧ i.wellFormed = true ∧ encode i = pack c op j d y

/-- Every C below 0o17 selects an OPR sub-operation (R146). -/
theorem spells_operate {c : Config6} (h : c.toNat < 0o17) : Spells 0o01 c 0 false 0 := by
  interval_cases hc : c.toNat
  all_goals
    obtain rfl := (BitVec.toNat_eq_nat.mp hc).2
    exact ⟨_, rfl, rfl, rfl⟩

/-- Every C below 3 selects an alarm status register (R147). -/
theorem spells_selector {c : Config6} (h : c.toNat < 3) : Spells 0o65 c 0 false 0 :=
  ⟨.ras c, if_pos (Nat.le_of_lt_succ h), decide_eq_true (Nat.le_of_lt_succ h), rfl⟩

/-- With the must-be-zero fields of its class zero and no reserved C, every opcode that has a class spells an instruction: by cases on the
opcode, where only OPR and RAS look at C. -/
theorem spells_of_class {op : Opcode} {c : Config6} {j : IndexId} {d : Bool} {y : AddrField} {cls : OperandClass}
    (hcls : opcodeClass op = some cls) (hz : mbzZero cls c j d y = true) (hc : ¬ ReservedSubcode op c) : Spells op c j d y := by
  unfold opcodeClass at hcls
  split at hcls
  case h_51 => cases hcls -- reserved: no class
  all_goals
    rename_i hop
    obtain rfl := (BitVec.toNat_eq_nat.mp hop).2
    cases hcls
    simp only [mbzZero, Bool.and_eq_true, beq_iff_eq] at hz
  case h_1 => -- OPR
    obtain ⟨⟨rfl, rfl⟩, rfl⟩ := hz
    exact spells_operate (Nat.lt_of_not_le fun hge => hc (.inl ⟨rfl, hge⟩))
  case h_50 => -- RAS
    obtain ⟨⟨rfl, rfl⟩, rfl⟩ := hz
    exact spells_selector (Nat.lt_of_not_le fun hge => hc (.inr ⟨rfl, hge⟩))
  case h_49 => exact ⟨_, rfl, rfl, rfl⟩ -- SPC: no field is must-be-zero
  all_goals
    simp only [hz]
    exact ⟨_, rfl, rfl, rfl⟩

/-- The opcode map has no instruction for a reserved C. -/
theorem decodeOpcode_reserved {op : Opcode} {c : Config6} (hc : ReservedSubcode op c) (j : IndexId) (d : Bool) (y : AddrField) :
    ∃ e, decodeOpcode op c j d y = .error e := by
  rcases hc with ⟨rfl, hge⟩ | ⟨rfl, hge⟩
  · refine ⟨.reservedOperate, ?_⟩
    change decodeOperate c = _
    unfold decodeOperate
    split
    case h_16 => rfl -- the one branch that no C below 0o17 takes
    all_goals omega
  · exact ⟨.reservedSelector, if_neg (Nat.not_le.mpr hge)⟩

/-! ### The decoder (R148, R152) -/

/-- The four cases of R148. -/
def IllegalCase (w : Word) : Prop :=
  fieldOp w ∈ reservedOpcodes ∨ ReservedSubcode (fieldOp w) (fieldC w) ∨
  ∃ cls, opcodeClass (fieldOp w) = some cls ∧ mbzZero cls (fieldC w) (fieldJ w) (fieldD w) (fieldY w) = false

/-- What a word that decodes has: a class, zero must-be-zero fields, and the opcode map's instruction. -/
theorem decode_ok {w : Word} {i : Instr} (h : decode w = .ok i) :
    ∃ cls, opcodeClass (fieldOp w) = some cls ∧ mbzZero cls (fieldC w) (fieldJ w) (fieldD w) (fieldY w) = true ∧
      decodeOpcode (fieldOp w) (fieldC w) (fieldJ w) (fieldD w) (fieldY w) = .ok i := by
  unfold decode at h
  split at h
  · cases h
  · rename_i cls hcls
    split at h
    · rename_i hz
      exact ⟨cls, hcls, hz, h⟩
    · cases h

/-- A word that decodes is in none of R148's cases. -/
theorem not_illegalCase_of_decode {w : Word} {i : Instr} (h : decode w = .ok i) : ¬ IllegalCase w := by
  obtain ⟨cls, hcls, hz, hi⟩ := decode_ok h
  rintro (hop | hc | ⟨cls', hcls', hz'⟩)
  · rw [(opcodeClass_eq_none_iff _).mpr hop] at hcls
    cases hcls
  · obtain ⟨e, he⟩ := decodeOpcode_reserved hc (fieldJ w) (fieldD w) (fieldY w)
    rw [he] at hi
    cases hi
  · rw [hcls] at hcls'
    cases hcls'
    rw [hz] at hz'
    cases hz'

/-- A word in none of R148's cases decodes to a well-formed instruction, whose word it is. -/
theorem decode_of_not_illegalCase {w : Word} (h : ¬ IllegalCase w) : ∃ i, decode w = .ok i ∧ i.wellFormed = true ∧ encode i = w := by
  simp only [IllegalCase, not_or, not_exists, not_and, Bool.not_eq_false] at h
  obtain ⟨hop, hc, hmbz⟩ := h
  obtain ⟨cls, hcls⟩ := Option.ne_none_iff_exists'.mp (mt (opcodeClass_eq_none_iff _).mp hop)
  obtain ⟨i, hi, hwf, henc⟩ := spells_of_class hcls (hmbz cls hcls) hc
  exact ⟨i, (decode_of_class hcls (hmbz cls hcls)).trans hi, hwf, henc.trans (pack_fields w)⟩

/-- R148: the illegal words are those of its four cases. -/
theorem decode_error_iff (w : Word) : (∃ e, decode w = .error e) ↔ IllegalCase w := by
  cases h : decode w with
  | ok i => simp [not_illegalCase_of_decode h]
  | error e =>
    refine iff_of_true ⟨e, rfl⟩ (by_contra fun hlegal => ?_)
    obtain ⟨i, hi, -⟩ := decode_of_not_illegalCase hlegal
    rw [h] at hi
    cases hi

/-- What a word decodes to is well-formed and encodes to that word. -/
theorem encode_of_decode {w : Word} {i : Instr} (h : decode w = .ok i) : i.wellFormed = true ∧ encode i = w := by
  obtain ⟨i', hi', hround⟩ := decode_of_not_illegalCase (not_illegalCase_of_decode h)
  rw [h] at hi'
  cases hi'
  exact hround

/-- A well-formed instruction is what its word decodes to: its opcode has a class, under which the fields it leaves out are zero. Only RAS has
an operand to check. -/
theorem decode_encode {i : Instr} (h : i.wellFormed = true) : decode (encode i) = .ok i := by
  cases i
  case ras k => exact (decode_pack rfl rfl).trans (if_pos (of_decide_eq_true h))
  all_goals exact decode_pack rfl rfl

/-! ### Encode on field values (R141, R152) -/

/-- The word of field values: R141's packing, each value cut to its width. -/
def wordOf (f : Fields) : Word :=
  pack (BitVec.ofNat 6 f.c) (BitVec.ofNat 6 f.op) (BitVec.ofNat 6 f.j) (f.d == 1) (BitVec.ofNat 17 f.y)

/-- What `encode(fields)` answers (R152). -/
theorem encodeFields_eq_some_iff {f : Fields} {w : Word} :
    encodeFields f = some w ↔ f.fit = true ∧ (∃ i, decode w = .ok i) ∧ wordOf f = w := by
  unfold encodeFields
  rw [← wordOf.eq_def]
  split
  case isFalse hfit => simp [hfit]
  case isTrue hfit =>
    split
    case h_1 i hi =>
      rw [Option.some.injEq]
      exact ⟨fun hw => ⟨hfit, ⟨i, hw ▸ hi⟩, hw⟩, fun ⟨_, _, hw⟩ => hw⟩
    case h_2 e he =>
      refine iff_of_false nofun ?_
      rintro ⟨-, ⟨i, hi⟩, rfl⟩
      rw [he] at hi
      cases hi

/-- A call fits when each value is below the size of its field (R141). -/
theorem fit_iff (f : Fields) : f.fit = true ↔ f.c < 2 ^ 6 ∧ f.op < 2 ^ 6 ∧ f.j < 2 ^ 6 ∧ f.d < 2 ^ 1 ∧ f.y < 2 ^ 17 := by
  simp only [Fields.fit, Bool.and_eq_true, decide_eq_true_eq, and_assoc]

/-- The fields of a word fit. -/
theorem fit_fieldsOf (w : Word) : (fieldsOf w).fit = true :=
  (fit_iff _).mpr ⟨(fieldC w).isLt, (fieldOp w).isLt, (fieldJ w).isLt, (fieldD w).toNat_lt, (fieldY w).isLt⟩

/-- A word is the word of its fields. -/
theorem wordOf_fieldsOf (w : Word) : wordOf (fieldsOf w) = w := by
  have hd : ((fieldD w).toNat == 1) = fieldD w := by cases fieldD w <;> rfl
  simp only [wordOf, fieldsOf, BitVec.ofNat_toNat, BitVec.setWidth_eq, hd, pack_fields]

/-- Values that fit are the fields of their word. -/
theorem fieldsOf_wordOf {f : Fields} (h : f.fit = true) : fieldsOf (wordOf f) = f := by
  obtain ⟨hc, hop, hj, hd, hy⟩ := (fit_iff f).mp h
  have hd' : (f.d == 1).toNat = f.d := by interval_cases f.d <;> rfl
  simp only [fieldsOf, wordOf, fieldC_pack, fieldOp_pack, fieldJ_pack, fieldD_pack, fieldY_pack, BitVec.toNat_ofNat, hd',
    Nat.mod_eq_of_lt hc, Nat.mod_eq_of_lt hop, Nat.mod_eq_of_lt hj, Nat.mod_eq_of_lt hy]

/-- Encode on field values answers for the fields of a legal word, with that word, and for nothing else. -/
theorem encodeFields_iff (f : Fields) (w : Word) : encodeFields f = some w ↔ (∃ i, decode w = .ok i) ∧ fieldsOf w = f := by
  rw [encodeFields_eq_some_iff]
  constructor
  · rintro ⟨hfit, hlegal, rfl⟩
    exact ⟨hlegal, fieldsOf_wordOf hfit⟩
  · rintro ⟨hlegal, rfl⟩
    exact ⟨fit_fieldsOf w, hlegal, wordOf_fieldsOf w⟩

/-- Encode refuses an ill-formed instruction. -/
theorem encodeChecked_illFormed {i : Instr} (h : i.wellFormed = false) : encodeChecked i = none := by
  simp [encodeChecked, h]

/-- Settles O1: `spells_of_class` finds the instruction of every word outside R148's cases, and `decode_encode` reads every well-formed
instruction back. -/
theorem decodeInvertsEncode : Obligations.DecodeInvertsEncode :=
  ⟨fun _ => decode_encode, fun _ _ => encode_of_decode, fun _ => encodeChecked_illFormed, encodeFields_iff⟩

/-! ### Executing an illegal word (R150, R601) -/

/-- The word fetched from an address of memory (40_cycle.md R216). -/
theorem fetchedWord_of_lt {s : State} {cur : SeqId} (hp : (seqAt s cur).pc.toNat < s.params.memSize) :
    fetchedWord s cur = s.mem.read (seqAt s cur).pc.toNat := if_pos hp

/-- A live cycle that fetches an illegal word is counted and halts, whatever the handlers are. -/
theorem step_illegal {s : State} {cur : SeqId} {e : Illegal} (hlive : Live s cur) (hp : (seqAt s cur).pc.toNat < s.params.memSize)
    (he : decode (s.mem.read (seqAt s cur).pc.toNat) = .error e) :
    step s = .next (halt (tick s) ⟨.illegalInstruction, cur, (seqAt s cur).pc, s.mem.read (seqAt s cur).pc.toNat, 0⟩) := by
  rw [← fetchedWord_of_lt hp] at he ⊢
  rw [step_running hlive.legal hlive.running, beginCycle_illegal hlive.live hp he]
  exact congrArg Host.Outcome.next (alarm_fatal (catcher_illegal (tick s) cur) _ _ _)

/-- Settles O3: `decode_error_iff` with R148's cases written out, and `step_illegal`. -/
theorem illegalWordsHaltTheRun : Obligations.IllegalWordsHaltTheRun := by
  refine ⟨fun w => ?_, fun s cur hlive hp ⟨e, he⟩ => step_illegal hlive hp he⟩
  rw [decode_error_iff, IllegalCase, ReservedSubcode, or_assoc]

/-- R150: the opcode of the all-zero word is reserved. -/
theorem decode_zero : decode 0 = .error .reservedOpcode := rfl

/-- Settles O4: the zero word is illegal by `decode_zero`, so the cycle that fetches it halts by `step_illegal`. -/
theorem zeroWordIsIllegal : Obligations.ZeroWordIsIllegal := by
  refine ⟨decode_zero, fun s cur hlive hp hzero => ?_⟩
  have he : decode (s.mem.read (seqAt s cur).pc.toNat) = .error .reservedOpcode := by rw [hzero, decode_zero]
  refine ⟨_, step_illegal hlive hp he, ?_⟩
  rw [halt_mode, hzero]

end Sys2Proof.Proofs
end

section
/-! PROOFS. The check of a sequence id and the effective address (30_encoding.md R164 to R166; 40_cycle.md R219 to R222). -/

namespace Sys2Proof.Proofs
open Sys2Proof.Machine Sys2Proof.Laws

/-! ### Sequence ids (R164, R219) -/

/-- An instruction whose phases end in an AddressFault raises it for the live sequence. -/
theorem exec_addressFault {i : Instr} {s : State} {cur : SeqId} {addr : Int} (hs : select s = some cur)
    (h : effectsOf i s cur = .error (addressFault addr)) : exec i s = .next (raised s cur .addressFault (wrap36 addr)) := by
  rw [exec_of_live i hs, h, finish_addressFault, raised]

/-- A phase sequence that begins with the check of an id of NSEQ or more ends there. -/
theorem checkSeq_bind_out {s : State} {n : SeqId} (h : s.params.nseq ≤ n.toNat) (rest : Unit → Action) :
    (checkSeq s n >>= rest) = .error (addressFault (n.toNat : Int)) := by
  rw [checkSeq_out h, error_bind]

/-- Settles O29: each of the five effect sets begins with the check of n, and a 6-bit id is below 64. -/
theorem sequenceIdOutOfRangeFaults : Obligations.SequenceIdOutOfRangeFaults := by
  refine ⟨fun s cur n j d y hs hn i hi => ?_, fun s n h64 => checkSeq_in (h64 ▸ n.isLt)⟩
  refine exec_addressFault (addr := n.toNat) hs ?_
  simp only [List.mem_cons, List.not_mem_nil, or_false] at hi
  rcases hi with rfl | rfl | rfl | rfl | rfl
  all_goals exact checkSeq_bind_out hn _

/-! ### Effective addresses (R165, R166) -/

/-- Indirection at an address of memory: bits 16..0 of the word there. -/
theorem resolve_deferred_in {s : State} {ea0 : Int} (h : IsAddress s ea0) :
    resolve s true ea0 = .ok (((s.mem.read ea0.toNat).toNat % 2 ^ 17 : Nat) : Int) := by
  rw [resolve_deferred, indirect_in (inBounds_iff.mpr h), extractLsb'_toNat_div, Nat.pow_zero, Nat.div_one]

/-- Indirection outside memory faults with EA0. -/
theorem resolve_deferred_out {s : State} {ea0 : Int} (h : ¬ IsAddress s ea0) :
    resolve s true ea0 = .error (.raise .addressFault (BitVec.ofInt 36 ea0)) := by
  have hout : inBounds s ea0 = false := Bool.eq_false_iff.mpr (mt inBounds_iff.mp h)
  exact (resolve_deferred s ea0).trans (indirect_out hout)

/-- EA0 of the indexed form, with the index as a signed number (R165). -/
theorem indexed_eq (s : State) (j : IndexId) (y : AddrField) : indexed s j y = (y.toNat : Int) + (readX s j).toInt := rfl

/-- EA0 is within the range of a 17-bit address plus an 18-bit signed index. -/
theorem indexed_bounds (s : State) (j : IndexId) (y : AddrField) : -131072 ≤ indexed s j y ∧ indexed s j y ≤ 262142 := by
  have hy := y.isLt
  have hlo := (readX s j).le_toInt
  have hhi := (readX s j).toInt_lt
  rw [indexed_eq]
  omega

/-- Settles O30: EA0 by definition of the two address forms, then `resolve`, which does not look at the index again. -/
theorem effectiveAddressRules : Obligations.EffectiveAddressRules := fun s j y =>
  ⟨rfl, rfl, fun _ => ⟨resolve_deferred_in, resolve_deferred_out⟩, rfl, rfl, indexed_bounds s j y⟩

end Sys2Proof.Proofs
end

section
/-! PROOFS. The scheduler's choice, and the steps that run no instruction: no runnable sequence, a faulted fetch, a halted machine (40_cycle.md
R205, R210, R211, R216). -/

namespace Sys2Proof.Proofs
open Sys2Proof.Machine Sys2Proof.Laws

/-! ### The enabled sequences (R210) -/

/-- The set E of R210. -/
theorem mem_enabledIds {s : State} {n : SeqId} : n ∈ enabledIds s ↔ n.toNat < s.params.nseq ∧ (seqAt s n).en = true := by
  simp only [enabledIds, List.mem_filter, List.mem_map, List.mem_range]
  refine and_congr_left fun _ => ⟨?_, fun h => ⟨n.toNat, h, BitVec.ofNat_toNat 6 n ▸ BitVec.setWidth_eq n⟩⟩
  rintro ⟨k, hk, rfl⟩
  rw [BitVec.toNat_ofNat]
  omega

/-- The enabled ids are listed rising: up to 64 sequences, no id of 6 bits wraps. -/
theorem enabledIds_rising {s : State} (h : s.params.nseq ≤ 64) : (enabledIds s).Pairwise fun n m => n.toNat < m.toNat := by
  refine List.Pairwise.filter _ (List.pairwise_map.mpr (List.pairwise_lt_range.imp_of_mem fun hk hl hlt => ?_))
  have hk' := List.mem_range.mp hk
  have hl' := List.mem_range.mp hl
  simp only [BitVec.toNat_ofNat]
  omega

/-! ### The largest rank (R210) -/

theorem topRank_concat (s : State) (ids : List SeqId) (n : SeqId) :
    topRank s (ids ++ [n]) = if topRank s ids ≤ (seqAt s n).prio then (seqAt s n).prio else topRank s ids := by
  rw [topRank, List.foldl_append]
  rfl

/-- No listed sequence ranks above the largest rank. -/
theorem le_topRank (s : State) {ids : List SeqId} {n : SeqId} (hn : n ∈ ids) : (seqAt s n).prio ≤ topRank s ids := by
  induction ids using List.reverseRecOn with
  | nil => cases hn
  | append_singleton ids m ih =>
    rw [topRank_concat]
    rcases List.mem_append.mp hn with hin | hlast
    · have := ih hin
      split <;> bv_omega
    · obtain rfl := List.mem_singleton.mp hlast
      split <;> bv_omega

/-- Among sequences that are not none, one has the largest rank. -/
theorem exists_topRank (s : State) {ids : List SeqId} (h : ids ≠ []) : ∃ n ∈ ids, (seqAt s n).prio = topRank s ids := by
  induction ids using List.reverseRecOn with
  | nil => exact absurd rfl h
  | append_singleton ids m ih =>
    rw [topRank_concat]
    split
    case isTrue => exact ⟨m, by simp, rfl⟩
    case isFalse hgt =>
      have hne : ids ≠ [] := by
        rintro rfl
        exact hgt (Nat.zero_le _)
      obtain ⟨n, hn, htop⟩ := ih hne
      exact ⟨n, List.mem_append_left _ hn, htop⟩

/-- The largest rank and those who have it: a listed sequence that no other outranks. -/
theorem eq_topRank_iff (s : State) {ids : List SeqId} {n : SeqId} (hn : n ∈ ids) :
    (seqAt s n).prio = topRank s ids ↔ ∀ m ∈ ids, (seqAt s m).prio ≤ (seqAt s n).prio := by
  constructor
  · intro htop m hm
    exact htop ▸ le_topRank s hm
  · intro hmax
    obtain ⟨m, hm, htop⟩ := exists_topRank s (List.ne_nil_of_mem hn)
    exact BitVec.le_antisymm (le_topRank s hn) (htop ▸ hmax m hm)

/-! ### The choice (R210) -/

/-- In a list on which `key` rises, `find?` answers the element of least key among those that pass the test. -/
theorem find?_eq_some_iff_of_rising {α : Type} (key : α → Nat) {p : α → Bool} {l : List α} {a : α}
    (hl : l.Pairwise fun x y => key x < key y) :
    l.find? p = some a ↔ a ∈ l ∧ p a = true ∧ ∀ b ∈ l, p b = true → key a ≤ key b := by
  induction l with
  | nil => simp
  | cons x l ih =>
    obtain ⟨hx, hl⟩ := List.pairwise_cons.mp hl
    by_cases hp : p x = true
    · rw [List.find?_cons_of_pos hp, Option.some.injEq]
      constructor
      · rintro rfl
        refine ⟨List.mem_cons_self, hp, fun b hb _ => ?_⟩
        rcases List.mem_cons.mp hb with rfl | hb
        · exact le_rfl
        · exact (hx b hb).le
      · rintro ⟨ha, -, hleast⟩
        rcases List.mem_cons.mp ha with rfl | ha
        · rfl
        · exact absurd (hleast x List.mem_cons_self hp) (hx a ha).not_ge
    · rw [List.find?_cons_of_neg hp, ih hl]
      grind -- `x` fails the test, so it is neither the answer nor compared with it

theorem select_eq_none_iff {s : State} : select s = none ↔ enabledIds s = [] := by
  constructor
  · intro hnone
    by_contra hne
    obtain ⟨n, hn, htop⟩ := exists_topRank s hne
    exact List.find?_eq_none.mp hnone n hn (beq_iff_eq.mpr htop)
  · intro hnil
    rw [select, hnil]
    rfl

/-- The scheduler's choice: no enabled sequence outranks it, and none of its rank has a lower id. -/
theorem select_eq_some_iff {s : State} (h : s.params.nseq ≤ 64) {n : SeqId} :
    select s = some n ↔ n ∈ enabledIds s ∧ ∀ m ∈ enabledIds s,
      (seqAt s m).prio < (seqAt s n).prio ∨ ((seqAt s m).prio = (seqAt s n).prio ∧ n.toNat ≤ m.toNat) := by
  rw [select, find?_eq_some_iff_of_rising BitVec.toNat (enabledIds_rising h)]
  simp only [beq_iff_eq]
  refine and_congr_right fun hn => ?_
  constructor
  · rintro ⟨htop, hfirst⟩ m hm
    have hle := htop ▸ le_topRank s hm
    by_cases heq : (seqAt s m).prio = (seqAt s n).prio
    · exact .inr ⟨heq, hfirst m hm (heq.trans htop)⟩
    · exact .inl (by bv_omega)
  · intro hbest
    have htop : (seqAt s n).prio = topRank s (enabledIds s) :=
      (eq_topRank_iff s hn).mpr fun m hm => by have := hbest m hm; bv_omega
    refine ⟨htop, fun m hm hm' => ?_⟩
    rcases hbest m hm with hlt | ⟨-, hle⟩
    · rw [hm', htop] at hlt
      bv_omega
    · exact hle

/-- Settles O7: `select_eq_none_iff` and `select_eq_some_iff`, with membership of E written out. -/
theorem schedulerPicksHighestRankThenLowestId : Obligations.SchedulerPicksHighestRankThenLowestId := by
  refine fun s h => ⟨?_, fun n => ?_⟩
  · simp only [select_eq_none_iff, List.eq_nil_iff_forall_not_mem, mem_enabledIds, not_and, Bool.not_eq_true]
  · simp only [select_eq_some_iff h, mem_enabledIds, and_imp, and_assoc]

/-- A sequence that is alone in being enabled is the one that runs. -/
theorem select_of_only_enabled {s : State} {n : SeqId} (h : s.params.nseq ≤ 64) (hn : n.toNat < s.params.nseq) (hen : (seqAt s n).en = true)
    (honly : ∀ m, m ≠ n → (seqAt s m).en = false) : select s = some n := by
  refine (select_eq_some_iff h).mpr ⟨mem_enabledIds.mpr ⟨hn, hen⟩, fun m hm => ?_⟩
  obtain ⟨-, hm⟩ := mem_enabledIds.mp hm
  by_cases hmn : m = n
  · exact .inr ⟨by rw [hmn], by rw [hmn]⟩
  · rw [honly m hmn] at hm
    cases hm

/-! ### Steps that run no instruction (R205, R211, R216) -/

/-- Settles O8: SELECT finds nothing, so the step ends before anything is counted. -/
theorem noRunnableSequenceHalts : Obligations.NoRunnableSequenceHalts := by
  refine ⟨rfl, fun s hlegal hrun hnone => ?_⟩
  rw [step_running hlegal hrun, beginCycle_none hnone]
  rfl

/-- Settles O9: `beginCycle_fetchFault` on one side of MEM_SIZE, `fetchedWord_of_lt` on the other. -/
theorem fetchFaultsOutsideMemory : Obligations.FetchFaultsOutsideMemory := by
  refine fun s cur hlive => ⟨fun hout => ?_, fetchedWord_of_lt⟩
  rw [step_running hlive.legal hlive.running, beginCycle_fetchFault hlive.live hout]
  rfl

/-- From mode Halted no step answers a next state, under any parameter set. -/
theorem step_ne_next_of_halted {s : State} {r : HaltRecord} (h : s.mode = .halted r) (t : State) : step s ≠ .next t := by
  intro hnext
  cases hlegal : s.params.legal with
  | true =>
    rw [step_halted hlegal h] at hnext
    cases hnext
  | false =>
    rw [step_illegalParameters hlegal] at hnext
    cases hnext

/-- A run that stands in mode Halted answers the record, with any number of steps left. -/
theorem runFor_of_halted {s : State} {r : HaltRecord} (h : s.mode = .halted r) (k : Nat) : runFor k s = some r := by
  unfold runFor
  rw [h]

/-- Settles O10: `step_ne_next_of_halted` and `runFor_of_halted`. -/
theorem haltedIsTerminal : Obligations.HaltedIsTerminal := fun _ _ h => ⟨step_ne_next_of_halted h, runFor_of_halted h⟩

end Sys2Proof.Proofs
end

section
/-! PROOFS. What a cycle does to the sequences that are not live (40_cycle.md R215). -/

namespace Sys2Proof.Proofs
open Sys2Proof.Machine Sys2Proof.Laws

/-! ### Committed writes -/

/-- The instructions that write the record of the sequence they name: SEN, SDS, SPR and SPC (R233). -/
def Names (i : Instr) (n : SeqId) : Prop := i = .sen n ∨ i = .sds n ∨ (∃ j y, i = .spr n j y) ∨ ∃ j d y, i = .spc n j d y

theorem not_names_iff {i : Instr} {n : SeqId} :
    ¬ Names i n ↔ i ≠ .sen n ∧ i ≠ .sds n ∧ (∀ j y, i ≠ .spr n j y) ∧ ∀ j d y, i ≠ .spc n j d y := by
  simp only [Names, not_or, not_exists, ne_eq]

/-- A buffered write to the record of a sequence that is not live belongs to an instruction that names it. -/
theorem seqAt_applyWrite_of_not_names {i : Instr} {s₀ : State} {cur n : SeqId} (hne : n ≠ cur) (hi : ¬ Names i n) (s : State) (w : Write)
    (hw : Allowed i s₀ cur w) : seqAt (applyWrite s w) n = seqAt s n := by
  cases w with
  | x j v => exact seqAt_writeX s j v n
  | a | b | asr | asrValid | mem | tapeCursor | punch => rfl
  | seqOv m v | seqCy m v => exact seqAt_setSeq_ne (hw ▸ hne)
  | seqPc m v =>
    obtain ⟨-, -, -, j, d, y, rfl⟩ := hw
    exact seqAt_setSeq_ne fun h => hi (.inr (.inr (.inr ⟨j, d, y, h ▸ rfl⟩)))
  | seqPrio m v =>
    obtain ⟨-, j, y, rfl⟩ := hw
    exact seqAt_setSeq_ne fun h => hi (.inr (.inr (.inl ⟨j, y, h ▸ rfl⟩)))
  | seqEn m v =>
    rcases hw with ⟨rfl | rfl, -⟩ | ⟨-, rfl⟩
    · exact seqAt_setSeq_ne fun h => hi (.inl (h ▸ rfl))
    · exact seqAt_setSeq_ne fun h => hi (.inr (.inl (h ▸ rfl)))
    · exact seqAt_setSeq_ne hne

/-- A committing cycle keeps the records of the sequences that are neither live nor named. -/
theorem seqAt_commit_of_not_names {i : Instr} {s : State} {cur n : SeqId} {e : Effects} (hne : n ≠ cur) (hi : ¬ Names i n)
    (he : Admits i s cur e) : seqAt (commit s cur e) n = seqAt s n := by
  rw [commit, commitWrites, applyWrites_append]
  calc seqAt (applyWrites (applyWrites s e.writes) [.seqPc cur (nextPc s cur e)]) n
      = seqAt (applyWrites s e.writes) n := seqAt_setSeq_ne hne
    _ = seqAt s n := applyWrites_frame (seqAt · n) (seqAt_applyWrite_of_not_names hne hi) s he.1

/-! ### Alarms (60_exceptions.md R610, R611) -/

/-- `n` is the handler that a caught alarm switches to, from `s` to `t`: it is enabled, and otherwise unchanged. -/
def SwitchEnables (s t : State) (n : SeqId) : Prop :=
  seqAt t n = { seqAt s n with en := true } ∧ s.asr.valid = false ∧ t.asr.valid = true ∧
    (s.params.handlerAddr = some n ∨ s.params.handlerArith = some n)

/-- Only the handler parameters name a handler. -/
theorem handler_of_alarmHandler {s : State} {k : AlarmKind} {h : SeqId} (hk : alarmHandler s k = some h) :
    s.params.handlerAddr = some h ∨ s.params.handlerArith = some h := by
  cases k with
  | addressFault => exact .inl hk
  | arithmeticFault => exact .inr hk
  | illegalInstruction => cases hk

/-- The records after a switch: the live one disabled, the handler's enabled, the others as they were. -/
theorem seqAt_of_switchedTo {s t : State} {cur h n : SeqId} {k : AlarmKind} {p : Pc} {w info : Word} (hsw : SwitchedTo s cur h k p w info t)
    (hne : n ≠ cur) : seqAt t n = if n = h then { seqAt s n with en := true } else seqAt s n := by
  have htable : seqAt t n = seqAt (setSeq (setSeq s cur { seqAt s cur with en := false }) h { seqAt s h with en := true }) n :=
    seqAt_congr (by rw [hsw]) n
  rw [htable, seqAt_setSeq, seqAt_setSeq_ne hne]
  split
  case isTrue heq => rw [heq]
  case isFalse => rfl

/-- An alarm changes a sequence that is not live only as the handler that it switches to. -/
theorem alarm_keeps_or_enables {s : State} {k : AlarmKind} {cur n : SeqId} {p : Pc} {w info : Word} (hne : n ≠ cur) :
    seqAt (alarm s k cur p w info) n = seqAt s n ∨ SwitchEnables s (alarm s k cur p w info) n := by
  rcases alarm_cases s k cur p w info with ⟨h, hcatch, heq⟩ | ⟨-, heq⟩
  · obtain ⟨hk, hcur, hvalid⟩ := catcher_some_iff.mp hcatch
    have hsw := switchedTo_alarmWrites (s := s) hcur k p w info
    rw [heq]
    by_cases hn : n = h
    · subst hn
      exact .inr ⟨(seqAt_of_switchedTo hsw hne).trans (if_pos rfl), hvalid, by rw [hsw], handler_of_alarmHandler hk⟩
    · exact .inl ((seqAt_of_switchedTo hsw hne).trans (if_neg hn))
  · exact .inl (heq ▸ rfl)

/-! ### The cycle (R215) -/

/-- However a cycle ends, a sequence that is neither live nor named is as it was, or the handler that an alarm switched to. -/
theorem finish_keeps_or_enables {i : Instr} {s : State} {cur n : SeqId} (hne : n ≠ cur) (hi : ¬ Names i n) :
    seqAt (finish s cur (effectsOf i s cur)) n = seqAt s n ∨ SwitchEnables s (finish s cur (effectsOf i s cur)) n := by
  rcases finish_cases i s cur with ⟨e, -, he, hfin⟩ | ⟨k, info, -, -, hfin⟩ | ⟨-, hfin⟩ <;> rw [hfin]
  · exact .inl (seqAt_commit_of_not_names hne hi he)
  · exact alarm_keeps_or_enables hne
  · exact .inl rfl

/-- Settles O17: by how the step ended; only an executed instruction or an alarm writes the sequence table. -/
theorem sequencesNotLiveAreUnchanged : Obligations.SequencesNotLiveAreUnchanged := by
  intro s t cur n hrun hlive hstep hne hinstr
  obtain ⟨-, hcase⟩ := step_cases hstep
  rcases hcase with ⟨hboot, -⟩ | ⟨-, hnone, -⟩ | ⟨-, c, hc, -, rfl⟩ | ⟨-, c, e, hc, -, -, rfl⟩ | ⟨-, c, i, hc, -, hdec, rfl⟩
  · rw [hrun] at hboot
    cases hboot
  · rw [hlive] at hnone
    cases hnone
  all_goals
    obtain rfl : cur = c := Option.some.inj (hlive.symm.trans hc)
  · exact alarm_keeps_or_enables (s := tick s) hne
  · exact .inl rfl
  · exact finish_keeps_or_enables (s := tick s) hne (not_names_iff.mpr (hinstr i hdec))

end Sys2Proof.Proofs
end

section
/-! PROOFS. The cycle counter: which steps add to it, and that no instruction reads it (40_cycle.md R234). -/

namespace Sys2Proof.Proofs
open Sys2Proof.Machine Sys2Proof.Laws

/-! ### Nothing but `tick` writes the counter -/

@[simp] theorem commit_cycles (s : State) (cur : SeqId) (e : Effects) : (commit s cur e).cycles = s.cycles :=
  applyWrites_cycles s _

@[simp] theorem alarm_cycles (s : State) (k : AlarmKind) (cur : SeqId) (p : Pc) (w info : Word) :
    (alarm s k cur p w info).cycles = s.cycles := by
  unfold alarm
  split
  · exact applyWrites_cycles s _
  · exact halt_cycles s _

@[simp] theorem finish_cycles (s : State) (cur : SeqId) (act : Action) : (finish s cur act).cycles = s.cycles := by
  rcases act with (⟨k, info⟩ | _) | e
  · exact alarm_cycles s k cur _ _ info
  · exact halt_cycles s _
  · exact commit_cycles s cur e

@[simp] theorem bootStep_cycles (s : State) : (bootStep s).cycles = s.cycles := by
  unfold bootStep
  split <;> rfl

/-- A step in mode Running counts exactly when SELECT finds a live sequence, however it ends. -/
theorem step_cycles_running {s t : State} (hstep : step s = .next t) (hrun : s.mode = .running) :
    t.cycles = s.cycles + if (select s).isSome then 1 else 0 := by
  obtain ⟨-, hcase⟩ := step_cases hstep
  rcases hcase with ⟨hboot, -⟩ | ⟨-, hnone, rfl⟩ | ⟨-, cur, hlive, -, rfl⟩ |
    ⟨-, cur, e, hlive, -, -, rfl⟩ | ⟨-, cur, i, hlive, -, -, rfl⟩
  · rw [hrun] at hboot
    cases hboot
  · rw [hnone]
    rfl
  all_goals rw [hlive]
  · exact alarm_cycles (tick s) _ _ _ _ _
  · rfl
  · exact finish_cycles (tick s) cur _

/-- What a step from mode Booting answers. -/
theorem step_eq_bootStep {s t : State} (hstep : step s = .next t) (hboot : s.mode = .booting) :
    s.params.legal = true ∧ t = bootStep s := by
  obtain ⟨hlegal, -⟩ := step_cases hstep
  refine ⟨hlegal, ?_⟩
  rw [step_booting hlegal hboot] at hstep
  exact (Host.Outcome.next.inj hstep).symm

/-! ### No instruction reads the counter -/

/-- The state with the counter at `c`. -/
def withCycles (s : State) (c : Nat) : State := { s with cycles := c }

/-- Every effect set is computed from the other components. -/
theorem effectsOf_withCycles (i : Instr) (s : State) (c : Nat) (cur : SeqId) : effectsOf i (withCycles s c) cur = effectsOf i s cur := by
  cases i <;> rfl

theorem applyWrite_withCycles (s : State) (c : Nat) (w : Write) : applyWrite (withCycles s c) w = withCycles (applyWrite s w) c := by
  cases w with
  | x j v => by_cases hj : j = 0#6 <;> simp [applyWrite, writeX, withCycles, hj]
  | a | b | seqPc | seqEn | seqPrio | seqOv | seqCy | asr | asrValid | mem | tapeCursor | punch => rfl

theorem applyWrites_withCycles (s : State) (c : Nat) (ws : List Write) :
    applyWrites (withCycles s c) ws = withCycles (applyWrites s ws) c := by
  induction ws generalizing s with
  | nil => rfl
  | cons w ws ih => rw [applyWrites_cons, applyWrites_cons, applyWrite_withCycles, ih]

theorem alarm_withCycles (s : State) (c : Nat) (k : AlarmKind) (cur : SeqId) (p : Pc) (w info : Word) :
    alarm (withCycles s c) k cur p w info = withCycles (alarm s k cur p w info) c := by
  have hcatch : catcher (withCycles s c) k cur = catcher s k cur := by cases k <;> rfl
  rcases alarm_cases s k cur p w info with ⟨h, hc, heq⟩ | ⟨hc, heq⟩
  · rw [heq, alarm_caught (hcatch.trans hc), applyWrites_withCycles]
  · rw [heq, alarm_fatal (hcatch.trans hc)]
    rfl

/-- How a cycle ends does not depend on the counter either. -/
theorem finish_withCycles (s : State) (c : Nat) (cur : SeqId) (act : Action) :
    finish (withCycles s c) cur act = withCycles (finish s cur act) c := by
  rcases act with (⟨k, info⟩ | _) | e
  · exact alarm_withCycles s c k cur _ _ info
  · rfl
  · exact applyWrites_withCycles s c _

/-- R234: an instruction commutes with every change of the counter. -/
theorem exec_withCycles {i : Instr} {s t : State} (h : exec i s = .next t) (c : Nat) : exec i (withCycles s c) = .next (withCycles t c) := by
  have hselect : select (withCycles s c) = select s := rfl
  rcases exec_cases h with ⟨hnone, rfl⟩ | ⟨cur, hlive, rfl⟩
  · rw [exec_eq_runLive, runLive_none (hselect.trans hnone)]
    rfl
  · rw [exec_of_live i (hselect.trans hlive), effectsOf_withCycles, finish_withCycles]

/-! ### Boot, then HLT (70_reset_and_hazards.md R711 to R714) -/

/-- The entry point of an image that passes the checks of R711 is an address of memory. -/
theorem bootCheck_entry_lt {p : Params} {image : List Word} {b : BootPlan} (h : bootCheck p image = .ok b) : b.entry < p.memSize := by
  unfold bootCheck at h
  split_ifs at h with _ _ _ _ _ hentry
  cases h
  exact Nat.lt_of_not_le hentry

/-- A boot from reset that leaves the mode Running passed every check and left the booted state. -/
theorem bootStep_running {p : Params} {image : List Word} (h : (bootStep (State.initial p image)).mode = .running) :
    ∃ b, bootCheck p image = .ok b ∧ bootStep (State.initial p image) = booted (State.initial p image) b := by
  cases hcheck : bootCheck p image with
  | ok b => exact ⟨b, rfl, by simp only [bootStep, State.initial, hcheck]⟩
  | error r => simp [bootStep, State.initial, hcheck] at h

/-- The boot sequence after a boot from reset: enabled at the entry point (R713). -/
theorem seqAt_booted_bootSeq (p : Params) (image : List Word) (b : BootPlan) :
    seqAt (booted (State.initial p image) b) p.bootSeq = { SeqRec.reset with pc := BitVec.ofNat 18 b.entry, en := true } := by
  rw [← seqAt_initial p image p.bootSeq]
  exact seqAt_setSeq_self _ _ _

/-- Boot touches no other sequence. -/
theorem seqAt_booted_ne {p : Params} {n : SeqId} (image : List Word) (b : BootPlan) (h : n ≠ p.bootSeq) :
    seqAt (booted (State.initial p image) b) n = SeqRec.reset :=
  (seqAt_setSeq_ne h).trans (seqAt_initial p image n)

/-- After a boot from reset the boot sequence is live (R713). -/
theorem live_booted {p : Params} {image : List Word} (b : BootPlan) (hlegal : p.legal = true) :
    Live (booted (State.initial p image) b) p.bootSeq where
  legal := hlegal
  running := rfl
  live := by
    obtain ⟨-, ⟨-, hnseq⟩, hbootSeq, -, -⟩ := (legal_iff p).mp hlegal
    refine select_of_only_enabled hnseq hbootSeq ?_ fun m hm => ?_
    · rw [seqAt_booted_bootSeq]
    · rw [seqAt_booted_ne image b hm]
      rfl

/-- After a boot from reset the boot sequence's pc is an address of memory. -/
theorem booted_pc_lt {p : Params} {image : List Word} {b : BootPlan} (hlegal : p.legal = true) (hcheck : bootCheck p image = .ok b) :
    (seqAt (booted (State.initial p image) b) p.bootSeq).pc.toNat < p.memSize := by
  have hentry := bootCheck_entry_lt hcheck
  obtain ⟨⟨-, hmem⟩, -⟩ := (legal_iff p).mp hlegal
  rw [seqAt_booted_bootSeq, BitVec.toNat_ofNat]
  omega

/-- A live cycle that fetches HLT is counted and halts with R604's record. -/
theorem step_hlt {s : State} {cur : SeqId} (hlive : Live s cur) (hp : (seqAt s cur).pc.toNat < s.params.memSize)
    (hword : s.mem.read (seqAt s cur).pc.toNat = 0o160100000000) :
    step s = .next (halt (tick s) ⟨.explicitHalt, cur, (seqAt s cur).pc, 0o160100000000, 0⟩) := by
  rw [← fetchedWord_of_lt hp] at hword
  have hdec : decode (fetchedWord s cur) = .ok .hlt := hword ▸ decode_encode (i := .hlt) rfl
  rw [step_running hlive.legal hlive.running, beginCycle_run hlive.live hp hdec, ← hword]
  exact exec_of_live .hlt hlive.live

/-- The cycle after boot that executes HLT is the first one counted. -/
theorem boot_then_hlt {p : Params} {image : List Word} {s : State} (hstep : step (State.initial p image) = .next s) (hrun : s.mode = .running)
    (hword : s.mem.read (seqAt s p.bootSeq).pc.toNat = 0o160100000000) :
    ∃ t, step s = .next t ∧ t.cycles = 1 ∧ t.mode = .halted ⟨.explicitHalt, p.bootSeq, (seqAt s p.bootSeq).pc, 0o160100000000, 0⟩ := by
  obtain ⟨hlegal, rfl⟩ := step_eq_bootStep hstep rfl
  obtain ⟨b, hcheck, hboot⟩ := bootStep_running hrun
  rw [hboot] at hword ⊢
  exact ⟨_, step_hlt (live_booted b hlegal) (booted_pc_lt hlegal hcheck) hword, rfl, rfl⟩

/-- Settles O12: the counter is written by `tick` alone and read by nothing, and boot keeps it at 0. -/
theorem cyclesCountLiveSteps : Obligations.CyclesCountLiveSteps := by
  refine ⟨fun s t => step_cycles_running, fun s t hstep hboot => ?_, fun p image s => boot_then_hlt, fun i s t c h => exec_withCycles h c⟩
  obtain ⟨-, rfl⟩ := step_eq_bootStep hstep hboot
  exact bootStep_cycles s

end Sys2Proof.Proofs
end

section
/-! PROOFS. Instructions with a memory operand, once for every address form; the loads, the stores and the immediate loads
(30_encoding.md R160; 40_cycle.md R220 to R222; 41_load_store.md R260 to R266). -/

namespace Sys2Proof.Proofs
open Sys2Proof.Machine Sys2Proof.Laws Sys2Proof.Claims

/-! ### Instructions with a memory operand (40_cycle.md R220 to R222) -/

/-- An address outside memory fails the bounds check (20_memory.md R105). -/
theorem inBounds_eq_false {s : State} {addr : Int} (h : ¬ IsAddress s addr) : inBounds s addr = false :=
  Bool.eq_false_iff.mpr (mt inBounds_iff.mp h)

/-- EA of the form is EA0, then at most one level of indirection. -/
def Resolves (form : AddressForm) : Prop :=
  ∀ (s : State) (j : IndexId) (d : Bool) (y : AddrField), form.ea s j d y = resolve s d (form.ea0 s j y)

theorem byIndex_resolves : Resolves byIndex := fun _ _ _ _ => rfl

/-- The law of an instruction that forms EA and then does `rest` with it: an indirect word outside memory ends the cycle before `rest`, and
`rest` itself faults at an EA outside memory. -/
theorem memoryLaw_of_rest {form : AddressForm} {op : Opcode} {mk : IndexId → Bool → AddrField → Instr}
    {post : State → SeqId → IndexId → Int → Word → State → Prop} (hform : Resolves form)
    (hword : ∀ j d y, encode (mk j d y) = pack 0 op j d y) (rest : State → SeqId → IndexId → Int → Action)
    (heff : ∀ j d y s cur, effectsOf (mk j d y) s cur = (form.ea s j d y >>= rest s cur j))
    (hout : ∀ s cur j ea, ¬ IsAddress s ea → rest s cur j ea = .error (addressFault ea))
    (hin : ∀ s cur j ea, IsAddress s ea → post s cur j ea (s.mem.read ea.toNat) (finish s cur (rest s cur j ea))) :
    MemoryLaw form op mk post := by
  refine fun j d y => ⟨hword j d y, fun s cur hs => ⟨fun hd hea0 => ?_, fun ea hea hne => ?_, fun ea hea haddr => ?_⟩⟩
  · subst hd
    refine exec_addressFault hs ?_
    rw [heff, hform, resolve_deferred_out hea0]
    rfl
  · refine exec_addressFault hs ?_
    rw [heff, hea, ok_bind, hout s cur j ea hne]
  · refine ⟨_, exec_of_live _ hs, ?_⟩
    rw [heff, hea, ok_bind]
    exact hin s cur j ea haddr

/-- The law of an instruction that reads its operand at EA and then does `rest` with it. -/
theorem memoryLaw_of_read {form : AddressForm} {op : Opcode} {mk : IndexId → Bool → AddrField → Instr}
    {post : State → SeqId → IndexId → Int → Word → State → Prop} (hform : Resolves form)
    (hword : ∀ j d y, encode (mk j d y) = pack 0 op j d y) (rest : State → SeqId → IndexId → Int → Word → Action)
    (heff : ∀ j d y s cur, effectsOf (mk j d y) s cur = (form.ea s j d y >>= fun ea => memRead s ea >>= rest s cur j ea))
    (hpost : ∀ s cur j ea m, post s cur j ea m (finish s cur (rest s cur j ea m))) : MemoryLaw form op mk post := by
  refine memoryLaw_of_rest hform hword (fun s cur j ea => memRead s ea >>= rest s cur j ea) heff (fun s cur j ea hne => ?_)
    fun s cur j ea haddr => ?_
  · rw [memRead_out (inBounds_eq_false hne), error_bind]
  · rw [memRead_in (inBounds_iff.mpr haddr), ok_bind]
    exact hpost s cur j ea _

/-- What STA, STB, STZ and STX do with EA: the word there, and the pc advanced. -/
def storeAt (s : State) (v : Word) (ea : Int) : Action := do
  let w ← memWrite s ea v
  return advanceWith [w]

theorem storeAt_in {s : State} {ea : Int} (h : IsAddress s ea) (v : Word) : storeAt s v ea = .ok (advanceWith [.mem ea.toNat v]) := by
  rw [storeAt, memWrite_in (inBounds_iff.mpr h), ok_bind, pure_eq_ok]

theorem storeAt_out {s : State} {ea : Int} (h : ¬ IsAddress s ea) (v : Word) : storeAt s v ea = .error (addressFault ea) := by
  rw [storeAt, memWrite_out (inBounds_eq_false h), error_bind]

/-- The law of an instruction that stores the word `v` at EA. -/
theorem memoryLaw_of_store {form : AddressForm} {op : Opcode} {mk : IndexId → Bool → AddrField → Instr} (hform : Resolves form)
    (hword : ∀ j d y, encode (mk j d y) = pack 0 op j d y) (v : State → IndexId → Word)
    (heff : ∀ j d y s cur, effectsOf (mk j d y) s cur = (form.ea s j d y >>= storeAt s (v s j))) :
    MemoryLaw form op mk fun s cur j ea _ t =>
      t = { advance s cur with mem := s.mem.write ea.toNat (v s j) } ∧
      (s.mem.wf = true → ∀ addr, t.mem.read addr = if addr = ea.toNat then v s j else s.mem.read addr) := by
  refine memoryLaw_of_rest hform hword (fun s _ j => storeAt s (v s j)) heff (fun s _ j _ hne => storeAt_out hne (v s j))
    fun s cur j ea haddr => ?_
  rw [storeAt_in haddr, finish_ok, commit_advance]
  exact ⟨rfl, fun hwf addr => read_write hwf ea.toNat (v s j) addr⟩

/-! ### Loads (R260, R261) -/

/-- What reads the word at EA forms EA first. -/
theorem operand_bind (s : State) (j : IndexId) (d : Bool) (y : AddrField) (rest : Word → Action) :
    (operand s j d y >>= rest) = (eaIndexed s j d y >>= fun ea => memRead s ea >>= rest) := bind_assoc _ _ _

/-- Settles O32: each effect set is a read at EA and one register write. -/
theorem loadRules : Obligations.LoadRules := by
  constructor
  · exact memoryLaw_of_read byIndex_resolves (fun _ _ _ => rfl) (fun _ _ _ _ m => .ok (advanceWith [.a m]))
      (fun j d y s _ => operand_bind s j d y _) fun s cur _ _ m => commit_advance s cur [.a m]
  · exact memoryLaw_of_read byIndex_resolves (fun _ _ _ => rfl) (fun _ _ _ _ m => .ok (advanceWith [.b m]))
      (fun j d y s _ => operand_bind s j d y _) fun s cur _ _ m => commit_advance s cur [.b m]

/-! ### Stores (R262 to R264) -/

/-- Settles O33: each effect set stores one word at EA. -/
theorem storeRules : Obligations.StoreRules := by
  intro q hq
  simp only [List.mem_cons, List.not_mem_nil, or_false] at hq
  rcases hq with rfl | rfl | rfl
  · exact memoryLaw_of_store byIndex_resolves (fun _ _ _ => rfl) (fun s _ => s.a) fun _ _ _ _ _ => rfl
  · exact memoryLaw_of_store byIndex_resolves (fun _ _ _ => rfl) (fun s _ => s.b) fun _ _ _ _ _ => rfl
  · exact memoryLaw_of_store byIndex_resolves (fun _ _ _ => rfl) (fun _ _ => 0) fun _ _ _ _ _ => rfl

/-! ### Immediate loads (R265, R266) -/

/-- A packed word with a must-be-zero field of its class that is not zero is illegal (30_encoding.md R148 (d)). -/
theorem decode_pack_mbz {c : Config6} {op : Opcode} {j : IndexId} {d : Bool} {y : AddrField} {cls : OperandClass}
    (hcls : opcodeClass op = some cls) (hz : mbzZero cls c j d y = false) : ∃ e, decode (pack c op j d y) = .error e := by
  refine (decode_error_iff _).mpr (.inr (.inr ⟨cls, ?_, ?_⟩))
  · rw [fieldOp_pack, hcls]
  · rw [fieldC_pack, fieldJ_pack, fieldD_pack, fieldY_pack, hz]

/-- Settles O34: D is must-be-zero in class I, and each effect set is one write of the immediate, which is `indexed`. -/
theorem immediateLoadRules : Obligations.ImmediateLoadRules := fun j y =>
  ⟨rfl, rfl, decode_pack_mbz (cls := .i) rfl rfl, decode_pack_mbz (cls := .i) rfl rfl,
    fun s _ hs => ⟨exec_loadA hs rfl, exec_advance (ws := [.b (wrap36 (indexed s j y))]) hs rfl⟩⟩

end Sys2Proof.Proofs
end

section
/-! PROOFS. Transfers, once for every address form; the index-register instructions (40_cycle.md R222, R223; 42_index.md R300 to R306). -/

namespace Sys2Proof.Proofs
open Sys2Proof.Machine Sys2Proof.Laws Sys2Proof.Claims

/-! ### The address form of class XM, and writes of X[J] -/

theorem byAddress_resolves : Resolves byAddress := fun _ _ _ _ => rfl

/-- A buffered write of X[J], then the pc advanced. -/
theorem commit_advance_x (s : State) (cur : SeqId) (j : IndexId) (v : IndexWord) :
    commit s cur (advanceWith [.x j v]) = writeX (advance s cur) j v := by
  rw [commit_advance, applyWrites_cons, applyWrites_nil, applyWrite, setSeq_writeX, seqAt_writeX, advance]

/-- A buffered write of X[J], then the pc at the target. -/
theorem commit_jump_x (s : State) (cur : SeqId) (j : IndexId) (v : IndexWord) (t : Pc) :
    commit s cur (jumpWith [.x j v] t) = writeX (jump s cur t) j v := by
  rw [commit_jump, applyWrites_cons, applyWrites_nil, applyWrite, setSeq_writeX, seqAt_writeX, jump]

/-- An instruction whose effect set is a write of X[J]: X[J] and the pc change, nothing else. -/
theorem exec_loadX {i : Instr} {s : State} {cur : SeqId} {j : IndexId} {v : IndexWord} (hs : select s = some cur)
    (h : effectsOf i s cur = .ok (advanceWith [.x j v])) : exec i s = .next (writeX (advance s cur) j v) := by
  rw [exec_of_live i hs, h, finish_ok, commit_advance_x]

/-! ### 18-bit values: the conversions of 00_scope.md R15 as word operations -/

/-- An 18-bit value as a signed number, wrapped to 36 bits, is its sign extension. -/
theorem wrap36_s18 (v : IndexWord) : wrap36 (s18 v) = v.signExtend 36 := rfl

/-- The low 18 bits of a word. -/
theorem extractLsb'_low18 (m : Word) : m.extractLsb' 0 18 = BitVec.ofNat 18 m.toNat := rfl

/-- A sum with an 18-bit value read unsigned, modulo 2^18, is a sum of 18-bit values. -/
theorem wrap18_toNat_add (v : IndexWord) (k : Int) : wrap18 ((v.toNat : Int) + k) = v + wrap18 k := by
  rw [wrap18, BitVec.ofInt_add, BitVec.ofInt_natCast, BitVec.ofNat_toNat, BitVec.setWidth_eq, wrap18]

/-- ADX's sum (R303): the wrapped immediate is its sign extension. -/
theorem wrap18_add_immSigned (v : IndexWord) (y : AddrField) : wrap18 ((v.toNat : Int) + immSigned y) = v + y.signExtend 18 :=
  wrap18_toNat_add v (immSigned y)

/-- DJP's decrement (R306). -/
theorem wrap18_sub_one (v : IndexWord) : wrap18 ((v.toNat : Int) - 1) = v - 1 := by
  calc wrap18 ((v.toNat : Int) - 1)
    _ = wrap18 ((v.toNat : Int) + -1) := by rw [Int.sub_eq_add_neg]
    _ = v + wrap18 (-1) := wrap18_toNat_add v (-1)
    _ = v - 1 := (BitVec.sub_eq_add_neg v 1).symm

/-! ### LDX and STX (R300, R301) -/

/-- Settles O35: LDX is a read at EA and a write of X[J]; STX stores one word at EA. -/
theorem indexLoadStoreRules : Obligations.IndexLoadStoreRules := by
  constructor
  · refine memoryLaw_of_read byAddress_resolves (fun _ _ _ => rfl) (fun _ _ j _ m => .ok (advanceWith [.x j (m.extractLsb' 0 18)]))
      (fun _ _ _ _ _ => rfl) fun s cur j _ m => ?_
    rw [finish_ok, commit_advance_x, extractLsb'_low18]
  · refine memoryLaw_of_store byAddress_resolves (fun _ _ _ => rfl) (fun s j => (readX s j).signExtend 36) fun _ _ _ _ _ => ?_
    rw [← wrap36_s18]
    rfl

/-! ### LIX, ADX, TXA and TAX (R302 to R305) -/

/-- Settles O36: each effect set is one register write, whose value is the word operation of the rule. -/
theorem indexRegisterRules : Obligations.IndexRegisterRules := by
  refine fun j y => ⟨rfl, rfl, rfl, rfl, fun s cur hs => ⟨exec_loadX hs rfl, ?adx, exec_loadA hs ?txa, exec_loadX hs ?tax⟩⟩
  case adx =>
    rw [← wrap18_add_immSigned]
    exact exec_loadX hs rfl
  case txa =>
    rw [← wrap36_s18]
    rfl
  case tax =>
    rw [← extractLsb'_low18]
    rfl

/-! ### Transfers (40_cycle.md R222, R223) -/

/-- A taken transfer faults at an EA outside memory. -/
theorem transferIf_taken_out {s : State} {ea : Int} (h : ¬ IsAddress s ea) (ws : List Write) :
    transferIf s true ws ea = .error (addressFault ea) := by
  rw [transferIf, if_pos rfl, target_out (inBounds_eq_false h), error_bind]

/-- A taken transfer to an address of memory: its other writes, and the pc there. -/
theorem transferIf_taken_in {s : State} {ea : Int} (h : IsAddress s ea) (ws : List Write) :
    transferIf s true ws ea = .ok (jumpWith ws (pcOf ea)) := by
  rw [transferIf, if_pos rfl, target_in (inBounds_iff.mpr h), ok_bind, pure_eq_ok]

/-- A transfer that is not taken does not look at EA. -/
theorem transferIf_not_taken (s : State) (ws : List Write) (ea : Int) : transferIf s false ws ea = .ok (advanceWith []) := rfl

/-- The law of an instruction that forms EA and then transfers to it where `cond` holds, with the other writes `ws`. -/
theorem transferLaw_of_transferIf {form : AddressForm} {op : Opcode} {mk : IndexId → Bool → AddrField → Instr}
    {taken : State → SeqId → IndexId → Prop} {post : State → SeqId → IndexId → Pc → State → Prop} (hform : Resolves form)
    (hword : ∀ j d y, encode (mk j d y) = pack 0 op j d y) (cond : State → SeqId → IndexId → Bool) (ws : State → SeqId → IndexId → List Write)
    (heff : ∀ j d y s cur, effectsOf (mk j d y) s cur = (form.ea s j d y >>= transferIf s (cond s cur j) (ws s cur j)))
    (hcond : ∀ s cur j, cond s cur j = true ↔ taken s cur j)
    (hpost : ∀ s cur j t, post s cur j t (commit s cur (jumpWith (ws s cur j) t))) : TransferLaw form op mk taken post advance := by
  refine fun j d y => ⟨hword j d y, fun s cur hs => ⟨fun hd hea0 => ?_, fun ea hea ht hne => ?_, fun ea hea ht haddr => ?_, fun ea hea ht => ?_⟩⟩
  · subst hd
    refine exec_addressFault hs ?_
    rw [heff, hform, resolve_deferred_out hea0]
    rfl
  · refine exec_addressFault hs ?_
    rw [heff, hea, ok_bind, (hcond s cur j).mpr ht, transferIf_taken_out hne]
  · refine ⟨_, exec_of_live _ hs, ?_⟩
    rw [heff, hea, ok_bind, (hcond s cur j).mpr ht, transferIf_taken_in haddr, finish_ok]
    exact hpost s cur j (pcOf ea)
  · have hfalse : cond s cur j = false := Bool.eq_false_iff.mpr (mt (hcond s cur j).mp ht)
    refine exec_advance (ws := []) hs ?_
    rw [heff, hea, ok_bind, hfalse, transferIf_not_taken]

/-! ### DJP (R306) -/

/-- Settles O37: a transfer taken while X[J] is positive, which writes the decremented X[J]. -/
theorem decrementAndJumpRule : Obligations.DecrementAndJumpRule := by
  refine transferLaw_of_transferIf byAddress_resolves (fun _ _ _ => rfl) (fun s _ j => decide (0 < s18 (readX s j)))
    (fun s _ j => [.x j (wrap18 (((readX s j).toNat : Int) - 1))]) (fun _ _ _ _ _ => rfl) (fun _ _ _ => decide_eq_true_iff) fun s cur j t => ?_
  rw [commit_jump_x, wrap18_sub_one]

end Sys2Proof.Proofs
end

section
/-! PROOFS. The transfers on A and on the live sequence's flags (43_control.md R340 to R346). -/

namespace Sys2Proof.Proofs
open Sys2Proof.Machine Sys2Proof.Laws Sys2Proof.Claims

/-! ### Transfers that move only the pc (R340 to R344, R346) -/

/-- With no other buffered write, a taken transfer is `jump`. -/
theorem commit_jump_nil (s : State) (cur : SeqId) (t : Pc) : commit s cur (jumpWith [] t) = jump s cur t := by
  rw [commit_jump, applyWrites_nil, jump]

/-- The law of an indexed transfer, taken where `cond` holds of the state, that moves only the pc. -/
theorem transferLaw_of_jump {op : Opcode} {mk : IndexId → Bool → AddrField → Instr} {taken : State → SeqId → Prop}
    (hword : ∀ j d y, encode (mk j d y) = pack 0 op j d y) (cond : State → SeqId → Bool)
    (heff : ∀ j d y s cur, effectsOf (mk j d y) s cur = (eaIndexed s j d y >>= transferIf s (cond s cur) []))
    (hcond : ∀ s cur, cond s cur = true ↔ taken s cur) :
    TransferLaw byIndex op mk (fun s cur _ => taken s cur) (fun s cur _ pc t => t = jump s cur pc) advance :=
  transferLaw_of_transferIf byIndex_resolves hword (fun s cur _ => cond s cur) (fun _ _ _ => []) heff
    (fun s cur _ => hcond s cur) fun s cur _ t => commit_jump_nil s cur t

/-- Settles O38: JMP, JAZ, JNZ, JAN and JAP, in this order, differ in the condition alone, each the decision of its predicate on A. -/
theorem jumpRules : Obligations.JumpRules := by
  intro q hq
  simp only [List.mem_cons, List.not_mem_nil, or_false] at hq
  rcases hq with rfl | rfl | rfl | rfl | rfl
  · exact transferLaw_of_jump (fun _ _ _ => rfl) (fun _ _ => true) (fun _ _ _ _ _ => rfl) fun _ _ => iff_of_true rfl trivial
  · exact transferLaw_of_jump (fun _ _ _ => rfl) (fun s _ => s.a == 0) (fun _ _ _ _ _ => rfl) fun _ _ => beq_iff_eq
  · exact transferLaw_of_jump (fun _ _ _ => rfl) (fun s _ => s.a != 0) (fun _ _ _ _ _ => rfl) fun _ _ => bne_iff_ne
  · exact transferLaw_of_jump (fun _ _ _ => rfl) (fun s _ => decide (sval s.a < 0)) (fun _ _ _ _ _ => rfl) fun _ _ => decide_eq_true_iff
  · exact transferLaw_of_jump (fun _ _ _ => rfl) (fun s _ => decide (0 < sval s.a)) (fun _ _ _ _ _ => rfl) fun _ _ => decide_eq_true_iff

/-! ### JOV and JCY (R345, R346) -/

/-- A buffered clear of the live sequence's ov, then the pc at the target: one update of its record. -/
theorem commit_jump_clearOv (s : State) (cur : SeqId) (t : Pc) :
    commit s cur (jumpWith [.seqOv cur false] t) = setSeq s cur { seqAt s cur with pc := t, ov := false } := by
  rw [commit_jump, applyWrites_cons, applyWrites_nil, applyWrite, seqAt_setSeq_self, setSeq_setSeq_self]

/-- Settles O39: JOV's clear of ov is a write of the taken transfer only, so neither a fault nor a transfer not taken makes it; JCY moves only
the pc. -/
theorem flagJumpRules : Obligations.FlagJumpRules := by
  constructor
  · exact transferLaw_of_transferIf byIndex_resolves (fun _ _ _ => rfl) (fun s cur _ => (seqAt s cur).ov) (fun _ cur _ => [.seqOv cur false])
      (fun _ _ _ _ _ => rfl) (fun _ _ _ => Iff.rfl) fun s cur _ t => commit_jump_clearOv s cur t
  · exact transferLaw_of_jump (fun _ _ _ => rfl) (fun s cur => (seqAt s cur).cy) (fun _ _ _ _ _ => rfl) fun _ _ => Iff.rfl

end Sys2Proof.Proofs
end

section
/-! PROOFS. The ALU on exact integers: sums and differences, products, quotients and remainders (44_arith.md R386, R387, R390, R391, R393). -/

namespace Sys2Proof.Proofs
open Sys2Proof.Machine Sys2Proof.Claims

/-! ### Sums and differences (R390, R391) -/

/-- The outcome v of R390. -/
theorem outOfRange_iff (r : Int) : outOfRange r = true ↔ Overflows r := by
  simp only [outOfRange, Bool.or_eq_true, decide_eq_true_eq]

/-- What the ALU answers: a word, and a carry and an overflow that decide `c` and `v`. -/
structure Outcomes (r : AluOut) (w : Word) (c v : Prop) : Prop where
  result : r.result = w
  carry : r.carry = true ↔ c
  overflow : r.overflow = true ↔ v

/-- An unsigned sum, modulo 2^36, is a sum of words. -/
theorem ofNat_sum (a m : Word) (n : Nat) : BitVec.ofNat 36 (a.toNat + m.toNat + n) = a + m + BitVec.ofNat 36 n := by
  rw [BitVec.ofNat_add, BitVec.ofNat_add, BitVec.ofNat_toNat, BitVec.ofNat_toNat, BitVec.setWidth_eq, BitVec.setWidth_eq]

/-- A signed sum, modulo 2^36, is the same sum of words. -/
theorem ofInt_sum (a m : Word) (n : Int) : BitVec.ofInt 36 (a.toInt + m.toInt + n) = a + m + BitVec.ofInt 36 n := by
  rw [BitVec.ofInt_add, BitVec.ofInt_add, BitVec.ofInt_toInt, BitVec.ofInt_toInt]

/-- A signed difference, modulo 2^36, is a difference of words. -/
theorem ofInt_difference (a m : Word) (n : Int) : BitVec.ofInt 36 (a.toInt - m.toInt - n) = a - m - BitVec.ofInt 36 n := by
  simp only [Int.sub_eq_add_neg, BitVec.sub_eq_add_neg, BitVec.ofInt_add, BitVec.ofInt_neg, BitVec.ofInt_toInt]

/-- Adding the complement and a carry-in is subtracting, with a borrow where there is no carry-in. -/
theorem add_not_add_carry (a m : Word) (k : Bool) :
    a + ~~~m + BitVec.ofNat 36 k.toNat = a - m - BitVec.ofNat 36 (1 - k.toNat) := by
  rw [BitVec.not_eq_neg_add]
  cases k
  · show a + (-m - 1) + 0 = a - m - 1
    ring
  · show a + (-m - 1) + 1 = a - m - 0
    ring

/-- Addition with carry-in. -/
theorem aluAdd_outcomes (a m : Word) (k : Bool) :
    Outcomes (aluAdd a m k) (a + m + BitVec.ofNat 36 k.toNat) (2 ^ 36 ≤ a.toNat + m.toNat + k.toNat)
      (Overflows (a.toInt + m.toInt + k.toNat)) where
  result := (BitVec.ofInt_natCast 36 _).trans (ofNat_sum a m k.toNat)
  carry := decide_eq_true_iff
  overflow := outOfRange_iff _

/-- Subtraction with carry-in: the carry says that there is no borrow. -/
theorem aluSub_outcomes (a m : Word) (k : Bool) :
    Outcomes (aluSub a m k) (a - m - BitVec.ofNat 36 (1 - k.toNat)) (m.toNat + 1 ≤ a.toNat + k.toNat)
      (Overflows (a.toInt - m.toInt - (1 - k.toNat))) where
  result := by
    rw [← add_not_add_carry, ← ofNat_sum]
    exact BitVec.ofInt_natCast 36 _
  carry := by
    have hm := m.isLt
    simp only [aluSub, uval, bit, decide_eq_true_eq, BitVec.toNat_not]
    omega
  overflow := outOfRange_iff _

/-- Addition without a carry-in. -/
theorem aluAdd_outcomes_false (a m : Word) :
    Outcomes (aluAdd a m false) (a + m) (2 ^ 36 ≤ a.toNat + m.toNat) (Overflows (a.toInt + m.toInt)) := by
  simpa using aluAdd_outcomes a m false

/-- Subtraction without a borrow. -/
theorem aluSub_outcomes_true (a m : Word) :
    Outcomes (aluSub a m true) (a - m) (m.toNat ≤ a.toNat) (Overflows (a.toInt - m.toInt)) := by
  simpa using aluSub_outcomes a m true

/-- The borrow of a subtraction, as an integer. -/
theorem ofInt_borrow (k : Bool) : BitVec.ofInt 36 (1 - k.toNat) = BitVec.ofNat 36 (1 - k.toNat) := by
  cases k <;> rfl

/-- Settles O31: the word of each operation is a sum or difference of words, which the unsigned and the signed sum both give. -/
theorem aluConditionOutcomes : Obligations.AluConditionOutcomes := by
  intro a m k
  have hadd := aluAdd_outcomes a m k
  have hsub := aluSub_outcomes a m k
  refine ⟨?addUnsigned, ?addSigned, hadd.carry, hadd.overflow, ?subUnsigned, ?subSigned, hsub.carry, hsub.overflow⟩
  case addUnsigned => rw [hadd.result, ofNat_sum]
  case addSigned => rw [hadd.result, ofInt_sum, BitVec.ofInt_natCast]
  case subUnsigned => rw [hsub.result, ofNat_sum, add_not_add_carry]
  case subSigned => rw [hsub.result, ofInt_difference, ofInt_borrow]

/-! ### Products (R386, R393) -/

/-- 72 bits hold every product of two words. -/
theorem product_toInt (a m : Word) : (product a m).toInt = a.toInt * m.toInt := by
  have hlow : -2 ^ 70 ≤ a.toInt * m.toInt := BitVec.le_toInt_mul_toInt
  have hhigh : a.toInt * m.toInt ≤ 2 ^ 70 := BitVec.toInt_mul_toInt_le
  exact BitVec.toInt_ofInt_eq_self (by decide) (le_trans (by decide) hlow) (lt_of_le_of_lt hhigh (by decide))

/-- The two words of a product are its halves. -/
theorem productHigh_append_productLow (a m : Word) : productHigh a m ++ productLow a m = product a m := by
  rw [productHigh, productLow, BitVec.extractLsb'_append_extractLsb'_eq_extractLsb' (show 36 = 0 + 36 from rfl)]
  exact BitVec.extractLsb'_eq_self

/-- The high word is signed, the low word unsigned. -/
theorem productHigh_productLow (a m : Word) : (productHigh a m).toInt * 2 ^ 36 + (productLow a m).toNat = a.toInt * m.toInt := by
  rw [← product_toInt, ← productHigh_append_productLow, BitVec.toInt_append, Int.mul_comm]
  rfl

/-! ### Quotients and remainders (R387, R393) -/

/-- The two cases in which a division faults. -/
theorem divFaults_iff (a m : Word) : divFaults a m = true ↔ m.toInt = 0 ∨ (a.toInt = -(2 ^ 35) ∧ m.toInt = -1) := by
  simp only [divFaults, Bool.or_eq_true, Bool.and_eq_true, beq_iff_eq]

/-- The quotient word is the signed division of words. -/
theorem wrap36_quotient (a m : Word) : wrap36 (quotient a m) = a.sdiv m := by
  apply BitVec.eq_of_toInt_eq
  rw [wrap36, BitVec.toInt_ofInt, BitVec.toInt_sdiv, quotient]

/-- The remainder is the one of the division that truncates. -/
theorem remainder_eq_tmod (a m : Word) : remainder a m = a.toInt.tmod m.toInt := by
  rw [remainder, quotient, Int.tmod_def, Int.mul_comm]

/-- The remainder fits a word, whatever the divisor. -/
theorem toInt_wrap36_remainder (a m : Word) : (wrap36 (remainder a m)).toInt = a.toInt.tmod m.toInt := by
  rw [remainder_eq_tmod, ← BitVec.toInt_srem, wrap36, BitVec.ofInt_toInt]

/-- The quotient fits a word but for -2^35 / -1. -/
theorem toInt_wrap36_quotient {a m : Word} (h : ¬ (a.toInt = -(2 ^ 35) ∧ m.toInt = -1)) :
    (wrap36 (quotient a m)).toInt = a.toInt.tdiv m.toInt := by
  rw [wrap36_quotient]
  apply BitVec.toInt_sdiv_of_ne_or_ne
  by_contra hne
  simp only [not_or, not_not] at hne
  obtain ⟨rfl, rfl⟩ := hne
  exact h ⟨rfl, rfl⟩

/-- A remainder is smaller than the divisor, and zero or of the dividend's sign. -/
theorem tmod_bound_and_sign (a : Int) {m : Int} (hm : m ≠ 0) :
    (a.tmod m).natAbs < m.natAbs ∧ (a.tmod m = 0 ∨ (a.tmod m < 0 ↔ a < 0)) := by
  refine ⟨?bound, or_iff_not_imp_left.mpr fun hne => ?sign⟩
  case bound =>
    rw [Int.natAbs_tmod]
    exact Nat.mod_lt _ (Int.natAbs_pos.mpr hm)
  case sign =>
    have hdvd : ¬ m ∣ a := mt Int.tmod_eq_zero_of_dvd hne
    rw [← Int.sign_eq_neg_one_iff_neg, Int.sign_tmod, if_neg hdvd, Int.sign_eq_neg_one_iff_neg]

end Sys2Proof.Proofs
end

section
/-! PROOFS. The arithmetic instructions: those that wrap, those that trap, multiplication and division (44_arith.md R380 to R387). -/

namespace Sys2Proof.Proofs
open Sys2Proof.Machine Sys2Proof.Laws Sys2Proof.Claims

/-! ### Sums that wrap (R380 to R383) -/

/-- A flag that decides a proposition is its decision. -/
theorem eq_decide_of_iff {b : Bool} {p : Prop} [Decidable p] (h : b = true ↔ p) : b = decide p :=
  Bool.eq_iff_iff.mpr (h.trans decide_eq_true_iff.symm)

/-- What ADD, SUB, ADC and SBC do with the ALU's answer: A, the carry and the sticky overflow. -/
def sumEffects (s : State) (cur : SeqId) (r : AluOut) : Effects :=
  advanceWith [.a r.result, .seqCy cur r.carry, .seqOv cur ((seqAt s cur).ov || r.overflow)]

/-- Buffered writes of A and the carry, then the pc advanced: A and one update of the live sequence's record. -/
theorem commit_advance_a_cy (s : State) (cur : SeqId) (w : Word) (c : Bool) :
    commit s cur (advanceWith [.a w, .seqCy cur c]) =
      { setSeq s cur { seqAt s cur with pc := (seqAt s cur).pc + 1, cy := c } with a := w } := by
  simp only [commit_advance, applyWrites_cons, applyWrites_nil, applyWrite, seqAt_setSeq_self, setSeq_setSeq_self]
  rfl

/-- The commit of a sum that wraps. -/
theorem commit_sumEffects (s : State) (cur : SeqId) {r : AluOut} {w : Word} {c v : Prop} [Decidable c] [Decidable v]
    (h : Outcomes r w c v) : commit s cur (sumEffects s cur r) = sumState s cur w c v := by
  simp only [sumEffects, commit_advance, applyWrites_cons, applyWrites_nil, applyWrite, seqAt_setSeq_self, setSeq_setSeq_self, h.result,
    eq_decide_of_iff h.carry, eq_decide_of_iff h.overflow]
  rfl

/-- The law of an instruction that reads its operand and commits the sum that `alu` forms with it. -/
theorem memoryLaw_of_sum {op : Opcode} {mk : IndexId → Bool → AddrField → Instr} {post : State → SeqId → IndexId → Int → Word → State → Prop}
    (hword : ∀ j d y, encode (mk j d y) = pack 0 op j d y) (alu : State → SeqId → Word → AluOut)
    (heff : ∀ j d y s cur, effectsOf (mk j d y) s cur = (operand s j d y >>= fun m => .ok (sumEffects s cur (alu s cur m))))
    (hpost : ∀ s cur j ea m, post s cur j ea m (commit s cur (sumEffects s cur (alu s cur m)))) : MemoryLaw byIndex op mk post :=
  memoryLaw_of_read byIndex_resolves hword (fun s cur _ _ m => .ok (sumEffects s cur (alu s cur m)))
    (fun j d y s cur => (heff j d y s cur).trans (operand_bind s j d y _)) hpost

/-- Settles O41: the four differ in the ALU operation and its carry-in alone. -/
theorem wrappingArithmeticRules : Obligations.WrappingArithmeticRules := by
  refine ⟨?add, ?sub, ?adc, ?sbc⟩
  case add =>
    exact memoryLaw_of_sum (fun _ _ _ => rfl) (fun s _ m => aluAdd s.a m false) (fun _ _ _ _ _ => rfl)
      fun s cur _ _ m => commit_sumEffects s cur (aluAdd_outcomes_false s.a m)
  case sub =>
    exact memoryLaw_of_sum (fun _ _ _ => rfl) (fun s _ m => aluSub s.a m true) (fun _ _ _ _ _ => rfl)
      fun s cur _ _ m => commit_sumEffects s cur (aluSub_outcomes_true s.a m)
  case adc =>
    exact memoryLaw_of_sum (fun _ _ _ => rfl) (fun s cur m => aluAdd s.a m (seqAt s cur).cy) (fun _ _ _ _ _ => rfl)
      fun s cur _ _ m => commit_sumEffects s cur (aluAdd_outcomes s.a m (seqAt s cur).cy)
  case sbc =>
    exact memoryLaw_of_sum (fun _ _ _ => rfl) (fun s cur m => aluSub s.a m (seqAt s cur).cy) (fun _ _ _ _ _ => rfl)
      fun s cur _ _ m => commit_sumEffects s cur (aluSub_outcomes s.a m (seqAt s cur).cy)

/-! ### Operations that trap (R384, R385, R387) -/

/-- What ADV, SBV and DIV do with EA: ArithmeticFault(EA) with nothing written, or their writes. -/
def trapIf (fault : Bool) (ea : Int) (ws : List Write) : Action :=
  if fault then .error (.raise .arithmeticFault (wrap36 ea)) else .ok (advanceWith ws)

theorem finish_trapIf_fault (s : State) (cur : SeqId) (ea : Int) (ws : List Write) :
    finish s cur (trapIf true ea ws) = raised s cur .arithmeticFault (wrap36 ea) := rfl

theorem finish_trapIf_completes (s : State) (cur : SeqId) (ea : Int) (ws : List Write) :
    finish s cur (trapIf false ea ws) = commit s cur (advanceWith ws) := rfl

/-- The law of an instruction that reads its operand and traps where `fault` holds of the state and the operand. -/
theorem memoryLaw_of_trap {op : Opcode} {mk : IndexId → Bool → AddrField → Instr} {traps : State → Word → Prop}
    {done : State → SeqId → Word → State → Prop} (hword : ∀ j d y, encode (mk j d y) = pack 0 op j d y)
    (fault : State → Word → Bool) (ws : State → SeqId → Word → List Write)
    (heff : ∀ j d y s cur, effectsOf (mk j d y) s cur =
      (eaIndexed s j d y >>= fun ea => memRead s ea >>= fun m => trapIf (fault s m) ea (ws s cur m)))
    (hfault : ∀ s m, fault s m = true ↔ traps s m)
    (hdone : ∀ s cur m, ¬ traps s m → done s cur m (commit s cur (advanceWith (ws s cur m)))) :
    MemoryLaw byIndex op mk fun s cur _ ea m t =>
      (traps s m → t = raised s cur .arithmeticFault (wrap36 ea)) ∧ (¬ traps s m → done s cur m t) := by
  refine memoryLaw_of_read byIndex_resolves hword (fun s cur _ ea m => trapIf (fault s m) ea (ws s cur m)) heff
    fun s cur _ ea m => ⟨fun htrap => ?_, fun htrap => ?_⟩
  · rw [(hfault s m).mpr htrap, finish_trapIf_fault]
  · rw [Bool.eq_false_iff.mpr (mt (hfault s m).mp htrap), finish_trapIf_completes]
    exact hdone s cur m htrap

/-- The commit of a sum that did not trap: ov is not written. -/
theorem commit_trapping_sum (s : State) (cur : SeqId) {r : AluOut} {w : Word} {c v : Prop} [Decidable c] (h : Outcomes r w c v) :
    commit s cur (advanceWith [.a r.result, .seqCy cur r.carry]) =
      { setSeq s cur { seqAt s cur with pc := (seqAt s cur).pc + 1, cy := decide c } with a := w } := by
  rw [commit_advance_a_cy, h.result, eq_decide_of_iff h.carry]

/-- Settles O42: both trap on the ALU's overflow outcome. -/
theorem trappingArithmeticRules : Obligations.TrappingArithmeticRules := by
  constructor
  · exact memoryLaw_of_trap (fun _ _ _ => rfl) (fun s m => (aluAdd s.a m false).overflow)
      (fun s cur m => [.a (aluAdd s.a m false).result, .seqCy cur (aluAdd s.a m false).carry]) (fun _ _ _ _ _ => rfl)
      (fun s m => (aluAdd_outcomes_false s.a m).overflow) fun s cur m _ => commit_trapping_sum s cur (aluAdd_outcomes_false s.a m)
  · exact memoryLaw_of_trap (fun _ _ _ => rfl) (fun s m => (aluSub s.a m true).overflow)
      (fun s cur m => [.a (aluSub s.a m true).result, .seqCy cur (aluSub s.a m true).carry]) (fun _ _ _ _ _ => rfl)
      (fun s m => (aluSub_outcomes_true s.a m).overflow) fun s cur m _ => commit_trapping_sum s cur (aluSub_outcomes_true s.a m)

/-! ### MUL and DIV (R386, R387) -/

/-- Buffered writes of A and B, then the pc advanced. -/
theorem commit_advance_a_b (s : State) (cur : SeqId) (high low : Word) :
    commit s cur (advanceWith [.a high, .b low]) = { advance s cur with a := high, b := low } := commit_advance s cur _

/-- Settles O43: A and B are the halves of the product, which 72 bits hold. -/
theorem multiplyRule : Obligations.MultiplyRule :=
  memoryLaw_of_read byIndex_resolves (fun _ _ _ => rfl)
    (fun s _ _ _ m => .ok (advanceWith [.a (productHigh s.a m), .b (productLow s.a m)])) (fun j d y s _ => operand_bind s j d y _)
    fun s cur _ _ m => ⟨productHigh s.a m, productLow s.a m, commit_advance_a_b s cur _ _, productHigh_productLow s.a m⟩

/-- Settles O44: where the division does not fault, the words are the truncated quotient and its remainder, both exact. -/
theorem divideRule : Obligations.DivideRule := by
  refine memoryLaw_of_trap (fun _ _ _ => rfl) (fun s m => divFaults s.a m)
    (fun s _ m => [.a (wrap36 (quotient s.a m)), .b (wrap36 (remainder s.a m))]) (fun _ _ _ _ _ => rfl)
    (fun s m => divFaults_iff s.a m) fun s cur m hok => ?_
  obtain ⟨hzero, hfits⟩ := not_or.mp hok
  refine ⟨wrap36 (quotient s.a m), wrap36 (remainder s.a m), commit_advance_a_b s cur _ _, ?_⟩
  rw [toInt_wrap36_quotient hfits, toInt_wrap36_remainder]
  exact ⟨(Int.tdiv_mul_add_tmod _ _).symm, tmod_bound_and_sign _ hzero⟩

end Sys2Proof.Proofs
end

section
/-! PROOFS. The logical operations, the shifts and the rotates (45_logic_shift.md R420 to R427). -/

namespace Sys2Proof.Proofs
open Sys2Proof.Machine Sys2Proof.Laws Sys2Proof.Claims

/-! ### Logical operations (R420 to R422) -/

/-- The law of an instruction that combines A with the word at EA into A and writes nothing else. -/
theorem memoryLaw_of_combine {op : Opcode} {mk : IndexId → Bool → AddrField → Instr}
    (hword : ∀ j d y, encode (mk j d y) = pack 0 op j d y) (combine : Word → Word → Word)
    (heff : ∀ j d y s cur, effectsOf (mk j d y) s cur = (operand s j d y >>= fun m => .ok (advanceWith [.a (combine s.a m)]))) :
    MemoryLaw byIndex op mk fun s cur _ _ m t => t = { advance s cur with a := combine s.a m } :=
  memoryLaw_of_read byIndex_resolves hword (fun s _ _ _ m => .ok (advanceWith [.a (combine s.a m)]))
    (fun j d y s cur => (heff j d y s cur).trans (operand_bind s j d y _)) fun s cur _ _ m => commit_advance s cur [.a (combine s.a m)]

/-- Settles O45: the three differ in the bitwise operation alone. -/
theorem logicRules : Obligations.LogicRules := by
  refine ⟨?and, ?ior, ?xor⟩
  case and => exact memoryLaw_of_combine (fun _ _ _ => rfl) (· &&& ·) fun _ _ _ _ _ => rfl
  case ior => exact memoryLaw_of_combine (fun _ _ _ => rfl) (· ||| ·) fun _ _ _ _ _ => rfl
  case xor => exact memoryLaw_of_combine (fun _ _ _ => rfl) (· ^^^ ·) fun _ _ _ _ _ => rfl

/-! ### Shifts (R423 to R425): the ALU's results are the shifts of bit strings -/

theorem shlResult_eq (a : Word) (n : Config6) : shlResult a n = a <<< n.toNat := by
  apply BitVec.eq_of_toNat_eq
  rw [shlResult, wrap36, BitVec.ofInt_natCast, BitVec.toNat_ofNat, BitVec.toNat_shiftLeft, Nat.shiftLeft_eq]

theorem shrResult_eq (a : Word) (n : Config6) : shrResult a n = a >>> n.toNat := by
  apply BitVec.eq_of_toNat_eq
  rw [shrResult, wrap36, BitVec.ofInt_natCast, ← Nat.shiftRight_eq_div_pow, ← BitVec.toNat_ushiftRight, BitVec.ofNat_toNat,
    BitVec.setWidth_eq]

/-- From a count of 36 on, an arithmetic shift of a word leaves the sign in every bit, so the count may be cut at 36. -/
theorem sshiftRight_min (a : Word) (k : Nat) : a.sshiftRight (min k 36) = a.sshiftRight k := by
  obtain hk | hk := Nat.le_total k 36
  · rw [Nat.min_eq_left hk]
  · ext i hi
    rw [Nat.min_eq_right hk, BitVec.getElem_sshiftRight, BitVec.getElem_sshiftRight, dif_neg (by omega), dif_neg (by omega)]

theorem sarResult_eq (a : Word) (n : Config6) : sarResult a n = a.sshiftRight n.toNat := by
  rw [← sshiftRight_min, BitVec.sshiftRight, Int.shiftRight_eq_div_pow]
  rfl

/-- Above a count of 36, SAR's carry is the sign. -/
theorem sarCarry_eq (a : Word) (n : Config6) : sarCarry a n = if n.toNat ≤ 36 then a.getLsbD (n.toNat - 1) else a.msb := rfl

/-- A shift whose result is `a` and whose last bit out is `c`: A, and one update of the live sequence's record, whose cy a count of 0
keeps. A shift by 0 writes nothing, so its result must be A. -/
theorem exec_shift {i : Instr} {n : Config6} {s : State} {cur : SeqId} {a : Word} {c : Bool} (hs : select s = some cur)
    (heff : effectsOf i s cur = if n = 0 then .ok (advanceWith []) else .ok (advanceWith [.a a, .seqCy cur c]))
    (hzero : n = 0 → a = s.a) :
    exec i s = .next
      { setSeq s cur { seqAt s cur with pc := (seqAt s cur).pc + 1, cy := if n = 0 then (seqAt s cur).cy else c } with a := a } := by
  by_cases hn : n = 0
  · rw [if_pos hn] at heff
    rw [exec_advance hs heff, if_pos hn, hzero hn]
    rfl
  · rw [if_neg hn] at heff
    rw [exec_of_live i hs, heff, finish_ok, commit_advance_a_cy, if_neg hn]

/-- Settles O46: the three differ in the ALU's result and carry alone, and each result is A for a count of 0. -/
theorem shiftRules : Obligations.ShiftRules := by
  refine fun n => ⟨rfl, rfl, rfl, fun s cur hs => ⟨?shl, ?shr, ?sar⟩⟩
  case shl =>
    rw [← shlResult_eq]
    refine exec_shift hs rfl fun hn => ?_
    rw [shlResult_eq, hn]
    exact BitVec.shiftLeft_zero s.a
  case shr =>
    rw [← shrResult_eq]
    refine exec_shift hs rfl fun hn => ?_
    rw [shrResult_eq, hn]
    exact BitVec.ushiftRight_zero s.a
  case sar =>
    rw [← sarResult_eq, ← sarCarry_eq]
    refine exec_shift hs rfl fun hn => ?_
    rw [sarResult_eq, hn]
    exact BitVec.sshiftRight_zero

/-! ### Rotates (R426, R427) -/

theorem rolResult_eq (a : Word) (n : Config6) : rolResult a n = a.rotateLeft n.toNat := rfl

theorem rorResult_eq (a : Word) (n : Config6) : rorResult a n = a.rotateRight n.toNat := rfl

/-- A rotate to the right is one to the left by what its count lacks to 36. -/
theorem rorResult_eq_rolResult (a : Word) (n : Config6) : rorResult a n = rolResult a (BitVec.ofNat 6 ((36 - n.toNat % 36) % 36)) := by
  have hcount : (BitVec.ofNat 6 ((36 - n.toNat % 36) % 36)).toNat % 36 = (36 - n.toNat % 36) % 36 := by
    rw [BitVec.toNat_ofNat]
    omega
  rw [rorResult, rolResult, hcount]
  obtain hr | hr := Nat.eq_zero_or_pos (n.toNat % 36)
  · simp [hr, BitVec.ushiftRight_eq_zero]
  · have hleft : (36 - n.toNat % 36) % 36 = 36 - n.toNat % 36 := Nat.mod_eq_of_lt (by omega)
    have hback : 36 - (36 - n.toNat % 36) = n.toNat % 36 := by omega
    rw [hleft, hback, BitVec.or_comm]

/-- Settles O47: each rotate is a load of A. -/
theorem rotateRules : Obligations.RotateRules := by
  refine fun n => ⟨rfl, rfl, fun s cur hs => ⟨exec_loadA hs ?rol, exec_loadA hs ?ror, exec_congr fun live => ?rorIsRol⟩⟩
  case rol => rw [← rolResult_eq]; rfl
  case ror => rw [← rorResult_eq]; rfl
  case rorIsRol => exact congrArg (fun w => finish s live (.ok (advanceWith [.a w]))) (rorResult_eq_rolResult s.a n)

end Sys2Proof.Proofs
end

section
/-! PROOFS. Compare and skip (46_compare_skip.md R459 to R463). -/

namespace Sys2Proof.Proofs
open Sys2Proof.Machine Sys2Proof.Laws Sys2Proof.Claims

/-- What SKE, SKN, SKL and SKG do once their operand is read: the skip if the comparison holds, else the advance, and no write (R459). -/
def skipIf (s : State) (cur : SeqId) (holds : Prop) [Decidable holds] : Action :=
  .ok (if holds then skip s cur else advanceWith [])

/-- A skip is a jump to p + 2, which is not checked (00_scope.md R17). -/
theorem finish_skipIf_holds {s : State} {cur : SeqId} {holds : Prop} [Decidable holds] (h : holds) :
    finish s cur (skipIf s cur holds) = jump s cur ((seqAt s cur).pc + 2) := by
  rw [skipIf, if_pos h, finish_ok, skip, commit_jump_nil]

theorem finish_skipIf_fails {s : State} {cur : SeqId} {holds : Prop} [Decidable holds] (h : ¬ holds) :
    finish s cur (skipIf s cur holds) = advance s cur := by
  rw [skipIf, if_neg h, finish_ok, commit_advance, applyWrites_nil, advance]

/-- The law of an instruction that skips where `compare` holds of A and the word at EA, and writes nothing. -/
theorem memoryLaw_of_skip {op : Opcode} {mk : IndexId → Bool → AddrField → Instr} {compare : Word → Word → Prop}
    [∀ a m, Decidable (compare a m)] (hword : ∀ j d y, encode (mk j d y) = pack 0 op j d y)
    (heff : ∀ j d y s cur, effectsOf (mk j d y) s cur = (operand s j d y >>= fun m => skipIf s cur (compare s.a m))) :
    MemoryLaw byIndex op mk fun s cur _ _ m t =>
      (compare s.a m → t = jump s cur ((seqAt s cur).pc + 2)) ∧ (¬ compare s.a m → t = advance s cur) :=
  memoryLaw_of_read byIndex_resolves hword (fun s cur _ _ m => skipIf s cur (compare s.a m))
    (fun j d y s cur => (heff j d y s cur).trans (operand_bind s j d y _)) fun _ _ _ _ _ => ⟨finish_skipIf_holds, finish_skipIf_fails⟩

/-- Settles O48: SKE, SKN, SKL and SKG, in this order, differ in the comparison alone. -/
theorem skipRules : Obligations.SkipRules := by
  intro q hq
  simp only [List.mem_cons, List.not_mem_nil, or_false] at hq
  rcases hq with rfl | rfl | rfl | rfl
  all_goals exact memoryLaw_of_skip (fun _ _ _ => rfl) fun _ _ _ _ _ => rfl

end Sys2Proof.Proofs
end

section
/-! PROOFS. The operate group but for HLT: instructions of a fixed word that write registers and the live sequence's flags (47_operate.md
R480 to R489). -/

namespace Sys2Proof.Proofs
open Sys2Proof.Machine Sys2Proof.Laws Sys2Proof.Claims

/-- The law of an instruction of a fixed word, from how its cycle ends. -/
theorem operateLaw_of_finish {w : Word} {i : Instr} {result : State → SeqId → State} (hformed : i.wellFormed = true) (hword : encode i = w)
    (hend : ∀ s cur, finish s cur (effectsOf i s cur) = result s cur) : OperateLaw w i result := by
  refine ⟨?decodes, hword, fun s cur hs => ?completes⟩
  case decodes => rw [← hword, decode_encode hformed]
  case completes => rw [exec_of_live i hs, hend]

/-- A buffered write of the carry, then the pc advanced: one update of the live sequence's record. -/
theorem commit_advance_cy (s : State) (cur : SeqId) (c : Bool) :
    commit s cur (advanceWith [.seqCy cur c]) = setSeq s cur { seqAt s cur with pc := (seqAt s cur).pc + 1, cy := c } := by
  simp only [commit_advance, applyWrites_cons, applyWrites_nil, applyWrite, seqAt_setSeq_self, setSeq_setSeq_self]

/-- A buffered write of the overflow flag, then the pc advanced: one update of the live sequence's record. -/
theorem commit_advance_ov (s : State) (cur : SeqId) (v : Bool) :
    commit s cur (advanceWith [.seqOv cur v]) = setSeq s cur { seqAt s cur with pc := (seqAt s cur).pc + 1, ov := v } := by
  simp only [commit_advance, applyWrites_cons, applyWrites_nil, applyWrite, seqAt_setSeq_self, setSeq_setSeq_self]

/-- -2^35 is the one signed word whose negative no word holds. -/
theorem overflows_zero_sub_iff (a : Word) : Overflows (0 - a.toInt) ↔ a.toInt = -(2 ^ 35) := by
  have hlow : -2 ^ 35 ≤ a.toInt := a.le_toInt
  have hhigh : a.toInt < 2 ^ 35 := a.toInt_lt
  unfold Overflows
  omega

/-- Subtraction from zero without a borrow (R483): only zero leaves no borrow. -/
theorem aluSub_zero_outcomes (a : Word) : Outcomes (aluSub 0#36 a true) (-a) (a = 0) (a.toInt = -(2 ^ 35)) where
  result := (aluSub_outcomes_true 0#36 a).result.trans (BitVec.zero_sub a)
  carry := (aluSub_outcomes_true 0#36 a).carry.trans (Nat.le_zero.trans (BitVec.toNat_inj (y := 0#36)))
  overflow := (aluSub_outcomes_true 0#36 a).overflow.trans (overflows_zero_sub_iff a)

/-- Settles O49: six write nothing, or registers that the pc's advance does not touch; NEG is a subtraction from zero; three write one flag. -/
theorem operateRules : Obligations.OperateRules := by
  refine ⟨?nop, ?cla, ?com, ?neg, ?xab, ?tab, ?tba, ?clc, ?sec, ?clo⟩
  case nop | cla | com | xab | tab | tba => exact operateLaw_of_finish rfl rfl fun s cur => commit_advance s cur _
  case neg => exact operateLaw_of_finish rfl rfl fun s cur => commit_sumEffects s cur (aluSub_zero_outcomes s.a)
  case clc => exact operateLaw_of_finish rfl rfl fun s cur => commit_advance_cy s cur false
  case sec => exact operateLaw_of_finish rfl rfl fun s cur => commit_advance_cy s cur true
  case clo => exact operateLaw_of_finish rfl rfl fun s cur => commit_advance_ov s cur false

end Sys2Proof.Proofs
end

section
/-! PROOFS. How every cycle ends: in a halt that applies nothing, or with a list of buffered writes; and the invariant of the machine, which
each of these writes keeps (40_cycle.md R230 to R235; 60_exceptions.md R610, R620). -/

namespace Sys2Proof.Proofs
open Sys2Proof.Machine Sys2Proof.Laws

/-! ### What a cycle applies -/

/-- The writes that the end of a cycle applies: those of the commit or of the alarm switch, none for a halt. -/
def endWrites (s : State) (cur : SeqId) : Action → List Write
  | .ok e => commitWrites s cur e
  | .error (.raise k info) => alarmWritesOf s k cur info
  | .error .halt => []

/-- A cycle ends in a halt or applies `endWrites`. -/
theorem finish_halts_or_writes (s : State) (cur : SeqId) (act : Action) :
    (∃ r, finish s cur act = halt s r) ∨ finish s cur act = applyWrites s (endWrites s cur act) := by
  rcases act with (⟨k, info⟩ | _) | e
  · rw [finish_raise]
    rcases alarm_cases s k cur (seqAt s cur).pc (fetchedWord s cur) info with ⟨h, hc, heq⟩ | ⟨-, heq⟩
    · refine .inr (heq.trans ?_)
      rw [endWrites, alarmWritesOf, hc]
    · exact .inl ⟨_, heq⟩
  · exact .inl ⟨_, rfl⟩
  · exact .inr rfl

/-- What every halt and every write that a cycle applies keeps, the end of the cycle keeps. -/
theorem finish_induct {I : State → Prop} {P : Write → Prop} {s : State} {cur : SeqId} {act : Action}
    (hwrite : ∀ s w, P w → I s → I (applyWrite s w)) (hhalt : ∀ s r, I s → I (halt s r)) (hP : ∀ w ∈ endWrites s cur act, P w)
    (hs : I s) : I (finish s cur act) := by
  rcases finish_halts_or_writes s cur act with ⟨r, heq⟩ | heq <;> rw [heq]
  · exact hhalt s r hs
  · exact applyWrites_induct hwrite hP hs

/-- What every halt and every write that a cycle applies leaves unchanged, the end of the cycle leaves unchanged. -/
theorem finish_frame {α : Type} (f : State → α) {P : Write → Prop} {s : State} {cur : SeqId} {act : Action}
    (hwrite : ∀ s w, P w → f (applyWrite s w) = f s) (hhalt : ∀ s r, f (halt s r) = f s) (hP : ∀ w ∈ endWrites s cur act, P w) :
    f (finish s cur act) = f s :=
  finish_induct (I := fun t => f t = f s) (fun t w hw ht => (hwrite t w hw).trans ht) (fun t r ht => (hhalt t r).trans ht) hP rfl

/-- The writes of a cycle: those of the effect set and the live pc, or the ASR and two enables of an alarm switch. -/
theorem forall_endWrites {P : Write → Prop} {s : State} {cur : SeqId} {act : Action} (heff : ∀ e, act = .ok e → ∀ w ∈ e.writes, P w)
    (hpc : ∀ v, P (.seqPc cur v)) (hasr : ∀ v, P (.asr v)) (hen : ∀ n v, P (.seqEn n v)) : ∀ w ∈ endWrites s cur act, P w := by
  rcases act with (⟨k, info⟩ | _) | e
  · intro w hw
    rw [endWrites, alarmWritesOf] at hw
    split at hw
    · simp only [alarmWrites, List.mem_cons, List.not_mem_nil, or_false] at hw
      rcases hw with rfl | rfl | rfl
      · exact hasr _
      · exact hen _ _
      · exact hen _ _
    · cases hw
  · exact fun w hw => nomatch hw
  · intro w hw
    rcases List.mem_append.mp hw with hw | hw
    · exact heff e rfl w hw
    · exact List.mem_singleton.mp hw ▸ hpc _

/-! ### The action of a cycle: FETCH, DECODE and EXECUTE in one -/

/-- How the phases of the live sequence's cycle end (40_cycle.md R235): the fetch's AddressFault, the IllegalInstruction of an illegal word, or
what the decoded instruction does. -/
def cycleAction (s : State) (cur : SeqId) : Action :=
  if (seqAt s cur).pc.toNat < s.params.memSize then
    match decode (fetchedWord s cur) with
    | .error _ => .error (.raise .illegalInstruction 0)
    | .ok i => effectsOf i s cur
  else .error (addressFault ((seqAt s cur).pc.toNat : Int))

theorem cycleAction_fetchFault {s : State} {cur : SeqId} (hp : s.params.memSize ≤ (seqAt s cur).pc.toNat) :
    cycleAction s cur = .error (addressFault ((seqAt s cur).pc.toNat : Int)) := if_neg (Nat.not_lt.mpr hp)

theorem cycleAction_illegal {s : State} {cur : SeqId} {e : Illegal} (hp : (seqAt s cur).pc.toNat < s.params.memSize)
    (hd : decode (fetchedWord s cur) = .error e) : cycleAction s cur = .error (.raise .illegalInstruction 0) := by
  rw [cycleAction, if_pos hp, hd]

theorem cycleAction_run {s : State} {cur : SeqId} {i : Instr} (hp : (seqAt s cur).pc.toNat < s.params.memSize)
    (hd : decode (fetchedWord s cur) = .ok i) : cycleAction s cur = effectsOf i s cur := by
  rw [cycleAction, if_pos hp, hd]

/-- A cycle that commits fetched from memory, and commits the effect set of the instruction that the word there decodes to. -/
theorem cycleAction_ok {s : State} {cur : SeqId} {e : Effects} (h : cycleAction s cur = .ok e) :
    (seqAt s cur).pc.toNat < s.params.memSize ∧ ∃ i, decode (fetchedWord s cur) = .ok i ∧ effectsOf i s cur = .ok e := by
  by_cases hp : (seqAt s cur).pc.toNat < s.params.memSize
  · refine ⟨hp, ?_⟩
    cases hd : decode (fetchedWord s cur) with
    | error x => rw [cycleAction_illegal hp hd] at h; cases h
    | ok i => exact ⟨i, rfl, (cycleAction_run hp hd).symm.trans h⟩
  · rw [cycleAction_fetchFault (Nat.not_lt.mp hp)] at h
    cases h

/-- The counter has no part in it. -/
theorem cycleAction_tick (s : State) (cur : SeqId) : cycleAction (tick s) cur = cycleAction s cur := by
  by_cases hp : (seqAt s cur).pc.toNat < s.params.memSize
  · cases hd : decode (fetchedWord s cur) with
    | error x => rw [cycleAction_illegal hp hd, cycleAction_illegal (s := tick s) hp hd]
    | ok i => rw [cycleAction_run hp hd, cycleAction_run (s := tick s) hp hd]; exact effectsOf_withCycles i s _ cur
  · rw [cycleAction_fetchFault (Nat.not_lt.mp hp), cycleAction_fetchFault (s := tick s) (Nat.not_lt.mp hp)]
    rfl

/-- A word that the fetch does not find is 0 (40_cycle.md R216). -/
theorem fetchedWord_of_le {s : State} {cur : SeqId} (hp : s.params.memSize ≤ (seqAt s cur).pc.toNat) : fetchedWord s cur = 0 :=
  if_neg (Nat.not_lt.mpr hp)

/-- Everything a step that answers a next state can have done, with the cycle of the live sequence as one action. -/
theorem step_cycle_cases {s t : State} (h : step s = .next t) :
    s.params.legal = true ∧
    ((s.mode = .booting ∧ t = bootStep s) ∨
     (s.mode = .running ∧ select s = none ∧ t = haltNoRunnable s) ∨
     (s.mode = .running ∧ ∃ cur, select s = some cur ∧ t = finish (tick s) cur (cycleAction s cur))) := by
  obtain ⟨hlegal, hcase⟩ := step_cases h
  refine ⟨hlegal, ?_⟩
  rcases hcase with hboot | hnone | ⟨hrun, cur, hlive, hp, rfl⟩ | ⟨hrun, cur, e, hlive, hp, hd, rfl⟩ | ⟨hrun, cur, i, hlive, hp, hd, rfl⟩
  · exact .inl hboot
  · exact .inr (.inl hnone)
  all_goals refine .inr (.inr ⟨hrun, cur, hlive, ?_⟩)
  · rw [cycleAction_fetchFault hp, finish_addressFault, fetchedWord_tick, fetchedWord_of_le hp, seqAt_tick]
  · rw [cycleAction_illegal hp hd]
    rfl
  · rw [cycleAction_run hp hd]
    exact congrArg (finish (tick s) cur) (effectsOf_withCycles i s _ cur)

/-- The step of a live cycle. -/
theorem step_live {s t : State} {cur : SeqId} (h : step s = .next t) (hrun : s.mode = .running) (hlive : select s = some cur) :
    t = finish (tick s) cur (cycleAction s cur) := by
  obtain ⟨-, ⟨hboot, -⟩ | ⟨-, hnone, -⟩ | ⟨-, c, hc, rfl⟩⟩ := step_cycle_cases h
  · rw [hrun] at hboot
    cases hboot
  · rw [hlive] at hnone
    cases hnone
  · rw [hlive] at hc
    cases hc
    rfl

/-! ### The writes that keep the invariant -/

/-- A write within the bounds of `Inv`, under parameters `p` and with a tape of `len` words: it names a sequence that exists, a pc or an address
in range, a cursor on the tape, or the ASR of an alarm that can be caught. -/
def InRange (p : Params) (len : Nat) : Write → Prop
  | .a _ | .b _ | .x _ _ | .punch _ => True
  | .seqPc n v => n.toNat < p.nseq ∧ v.toNat ≤ p.memSize + 1
  | .seqEn n _ | .seqPrio n _ | .seqOv n _ | .seqCy n _ => n.toNat < p.nseq
  | .asr v => (v.kind = 2 ∨ v.kind = 3) ∧ v.seq.toNat < p.nseq ∧ v.pc.toNat ≤ p.memSize + 1
  | .asrValid v => v = false
  | .mem addr _ => addr < p.memSize
  | .tapeCursor v => v ≤ len

/-- In mode Running, what a clause says of mode Booting holds of nothing. -/
theorem inv_not_booting {s : State} {P : Prop} (hrun : s.mode = .running) (h : s.mode = .booting) : P := by
  rw [hrun] at h
  cases h

/-- Replacing the record of an existing sequence, with a pc in range. -/
theorem inv_setSeq {s : State} {n : SeqId} {r : SeqRec} (hs : Inv s) (hrun : s.mode = .running) (hn : n.toNat < s.params.nseq)
    (hpc : r.pc.toNat ≤ s.params.memSize + 1) : Inv (setSeq s n r) :=
  { hs with
    pcBound := fun m => by
      rw [seqAt_setSeq]
      split
      · exact hpc
      · exact hs.pcBound m
    absent := fun m hm => by
      have hne : m ≠ n := by
        rintro rfl
        exact absurd hn (Nat.not_lt.mpr hm)
      rw [seqAt_setSeq_ne hne]
      exact hs.absent m hm
    booting := fun h => inv_not_booting hrun h }

theorem inv_writeX {s : State} {j : IndexId} {v : IndexWord} (hs : Inv s) (hrun : s.mode = .running) : Inv (writeX s j v) := by
  by_cases hj : j = 0#6
  · rw [hj, writeX_zero]
    exact hs
  · have hx := writeX_slotZero s j v hs.xZero
    rw [writeX, if_neg hj] at hx ⊢
    exact { hs with xZero := hx, booting := fun h => inv_not_booting hrun h }

/-- Each write in range keeps the invariant. -/
theorem inv_applyWrite {s : State} {w : Write} (hs : Inv s) (hrun : s.mode = .running) (hw : InRange s.params s.tapeIn.length w) :
    Inv (applyWrite s w) := by
  have hboot {P : Prop} : s.mode = .booting → P := inv_not_booting hrun
  cases w with
  | a v | b v | punch v => exact { hs with booting := hboot }
  | x j v => exact inv_writeX hs hrun
  | seqPc n v =>
    obtain ⟨hn, hv⟩ := hw
    exact inv_setSeq hs hrun hn hv
  | seqEn n v | seqPrio n v | seqOv n v | seqCy n v => exact inv_setSeq hs hrun hw (hs.pcBound n)
  | asr v =>
    obtain ⟨hkind, hseq, hpc⟩ := hw
    exact { hs with
      asrKind := .inr hkind
      asrRaised := fun _ h0 => by rcases hkind with h | h <;> exact absurd (h.symm.trans h0) (by decide)
      asrSeq := hseq
      asrPc := hpc
      booting := hboot }
  | asrValid v =>
    obtain rfl : v = false := hw
    exact { hs with asrRaised := nofun, booting := hboot }
  | mem addr v =>
    exact { hs with
      memWf := wf_write hs.memWf addr v
      memBound := fun cell hcell => by
        rcases mem_write hcell with hcell | rfl
        · exact hs.memBound cell hcell
        · exact hw
      booting := hboot }
  | tapeCursor v => exact { hs with tape := hw, booting := hboot }

theorem inv_tick {s : State} (hs : Inv s) (hrun : s.mode = .running) : Inv (tick s) :=
  { hs with booting := fun h => inv_not_booting hrun h }

theorem inv_halt {s : State} {r : HaltRecord} (hs : Inv s) : Inv (halt s r) :=
  { hs with booting := nofun }

/-- The live sequence exists. -/
theorem select_lt_nseq {s : State} {cur : SeqId} (h : select s = some cur) : cur.toNat < s.params.nseq := by
  obtain ⟨hlt, -⟩ := mem_enabledIds.mp (List.mem_of_find?_eq_some h)
  exact hlt

/-- Where the invariant holds, the writes of an instruction's effect set are in range. -/
theorem inRange_of_allowed {i : Instr} {s : State} {cur : SeqId} {w : Write} (hs : Inv s) (hcur : cur.toNat < s.params.nseq)
    (hw : Allowed i s cur w) : InRange s.params s.tapeIn.length w := by
  obtain ⟨⟨-, hmem⟩, -⟩ := (legal_iff s.params).mp hs.legal
  cases w with
  | a | b | x | punch => trivial
  | seqPc n v =>
    obtain ⟨-, hn, hv, -⟩ := hw
    exact ⟨hn, (hv hmem).le.trans (Nat.le_succ _)⟩
  | seqEn n v =>
    rcases hw with ⟨-, hn⟩ | ⟨-, rfl⟩
    · exact hn
    · exact hcur
  | seqPrio n v => exact hw.1
  | seqOv n v | seqCy n v =>
    obtain rfl : n = cur := hw
    exact hcur
  | asr v => exact hw.elim
  | asrValid v => exact hw.2
  | mem addr v => exact hw.1
  | tapeCursor v =>
    obtain ⟨rfl, hlt, -⟩ := hw
    exact hlt

/-- The next pc of a cycle that fetched from memory is a pc: an address of memory, or p + 1 or p + 2 (10_state.md R51). -/
theorem nextPc_le {i : Instr} {s : State} {cur : SeqId} {e : Effects} (hs : Inv s) (hp : (seqAt s cur).pc.toNat < s.params.memSize)
    (he : Admits i s cur e) : (nextPc s cur e).toNat ≤ s.params.memSize + 1 := by
  obtain ⟨⟨-, hmem⟩, -⟩ := (legal_iff s.params).mp hs.legal
  obtain ⟨-, hnext⟩ := he
  unfold nextPc
  cases hn : e.nextPc with
  | none =>
    simp only [Option.getD_none, BitVec.toNat_add]
    exact (Nat.mod_le _ _).trans (Nat.succ_le_succ hp.le)
  | some t =>
    rcases hnext t hn with ht | rfl
    · exact (ht hmem).le.trans (Nat.le_succ _)
    · simp only [Option.getD_some, BitVec.toNat_add]
      exact (Nat.mod_le _ _).trans (Nat.succ_le_succ hp)

/-- An alarm with a handler has the code 2 or 3, since IllegalInstruction has none (R601, R609). -/
theorem code_of_alarmHandler {s : State} {k : AlarmKind} {h : SeqId} (hk : alarmHandler s k = some h) : k.code = 2 ∨ k.code = 3 := by
  cases k with
  | illegalInstruction => cases hk
  | addressFault => exact .inl rfl
  | arithmeticFault => exact .inr rfl

/-- A handler that catches an alarm exists (00_scope.md R11). -/
theorem catcher_lt_nseq {s : State} {k : AlarmKind} {cur h : SeqId} (hlegal : s.params.legal = true) (hc : catcher s k cur = some h) :
    h.toNat < s.params.nseq := by
  obtain ⟨-, -, -, haddr, harith⟩ := (legal_iff s.params).mp hlegal
  obtain ⟨hk, -⟩ := catcher_some_iff.mp hc
  rcases handler_of_alarmHandler hk with hk | hk
  · exact haddr h hk
  · exact harith h hk

/-- Where the invariant holds, the writes of an alarm switch are in range. -/
theorem inRange_alarmWritesOf {s : State} {cur : SeqId} {k : AlarmKind} {info : Word} (hs : Inv s) (hcur : cur.toNat < s.params.nseq) :
    ∀ w ∈ alarmWritesOf s k cur info, InRange s.params s.tapeIn.length w := by
  intro w hw
  rw [alarmWritesOf] at hw
  split at hw
  · rename_i h hc
    obtain ⟨hk, -⟩ := catcher_some_iff.mp hc
    simp only [alarmWrites, List.mem_cons, List.not_mem_nil, or_false] at hw
    rcases hw with rfl | rfl | rfl
    · exact ⟨code_of_alarmHandler hk, hcur, hs.pcBound cur⟩
    · exact hcur
    · exact catcher_lt_nseq hs.legal hc
  · cases hw

/-- Where the invariant holds, everything that a cycle of the live sequence applies is in range. -/
theorem inRange_endWrites {s : State} {cur : SeqId} (hs : Inv s) (hcur : cur.toNat < s.params.nseq) :
    ∀ w ∈ endWrites s cur (cycleAction s cur), InRange s.params s.tapeIn.length w := by
  rcases hact : cycleAction s cur with (⟨k, info⟩ | _) | e
  · exact inRange_alarmWritesOf hs hcur
  · exact fun w hw => nomatch hw
  · obtain ⟨hp, i, -, heff⟩ := cycleAction_ok hact
    have hadmits := effects_admit heff
    intro w hw
    rcases List.mem_append.mp hw with hw | hw
    · exact inRange_of_allowed hs hcur (hadmits.1 w hw)
    · cases List.mem_singleton.mp hw
      exact ⟨hcur, nextPc_le hs hp hadmits⟩

/-- The invariant survives the end of a cycle. -/
theorem inv_finish {s : State} {cur : SeqId} (hs : Inv s) (hrun : s.mode = .running) (hcur : cur.toNat < s.params.nseq) :
    Inv (finish s cur (cycleAction s cur)) := by
  rcases finish_halts_or_writes s cur (cycleAction s cur) with ⟨r, heq⟩ | heq <;> rw [heq]
  · exact inv_halt hs
  · have hkeep : ∀ t w, InRange s.params s.tapeIn.length w →
        (Inv t ∧ t.mode = .running ∧ t.params = s.params ∧ t.tapeIn = s.tapeIn) →
        (Inv (applyWrite t w) ∧ (applyWrite t w).mode = .running ∧ (applyWrite t w).params = s.params ∧
          (applyWrite t w).tapeIn = s.tapeIn) := by
      rintro t w hw ⟨ht, hmode, hparams, htape⟩
      rw [← hparams, ← htape] at hw
      rw [applyWrite_mode, applyWrite_params, applyWrite_tapeIn]
      exact ⟨inv_applyWrite ht hmode hw, hmode, hparams, htape⟩
    exact (applyWrites_induct hkeep (inRange_endWrites hs hcur) ⟨hs, hrun, rfl, rfl⟩).1

/-! ### Boot and reset -/

/-- The block of an image that passes the checks of R711 fits memory. -/
theorem bootCheck_block_le {p : Params} {image : List Word} {b : BootPlan} (h : bootCheck p image = .ok b) :
    b.base + b.data.length ≤ p.memSize := by
  unfold bootCheck at h
  split_ifs at h with _ _ _ _ hblock
  cases h
  have := List.length_take_le (uval (imageWord image 1)) (image.drop 2)
  dsimp only
  omega

theorem inv_booted {s : State} {b : BootPlan} (hs : Inv s) (hcheck : bootCheck s.params s.image = .ok b) : Inv (booted s b) := by
  obtain ⟨⟨-, hmem⟩, -, hbootSeq, -⟩ := (legal_iff s.params).mp hs.legal
  have hentry := bootCheck_entry_lt hcheck
  have hblock := bootCheck_block_le hcheck
  have hpc : (BitVec.ofNat 18 b.entry).toNat ≤ s.params.memSize + 1 := by
    rw [BitVec.toNat_ofNat]
    omega
  have hrunning : Inv { s with mode := .running } := { hs with booting := nofun }
  have hrecord : Inv (setSeq { s with mode := .running } s.params.bootSeq
      { seqAt s s.params.bootSeq with pc := BitVec.ofNat 18 b.entry, en := true }) := inv_setSeq hrunning rfl hbootSeq hpc
  exact { hrecord with
    memWf := wf_load hs.memWf b.base b.data
    memBound := fun cell hcell => by
      rcases mem_load hcell with hcell | ⟨-, hlt⟩
      · exact hs.memBound cell hcell
      · exact hlt.trans_le hblock
    tape := Nat.zero_le _
    booting := nofun }

theorem inv_bootStep {s : State} (hs : Inv s) : Inv (bootStep s) := by
  unfold bootStep
  split
  · rename_i b hcheck
    exact inv_booted hs hcheck
  · exact inv_halt hs

/-- Settles O14: boot, a halt and every write of a cycle keep the invariant. -/
theorem stepKeepsTheInvariant : Obligations.StepKeepsTheInvariant := by
  intro s t hs hstep
  obtain ⟨-, ⟨-, rfl⟩ | ⟨-, -, rfl⟩ | ⟨hrun, cur, hlive, rfl⟩⟩ := step_cycle_cases hstep
  · exact inv_bootStep hs
  · exact inv_halt hs
  · rw [← cycleAction_tick]
    exact inv_finish (inv_tick hs hrun) hrun (select_lt_nseq hlive)

/-- The reset state of a run with legal parameters meets the invariant. -/
theorem inv_initial {p : Params} (hlegal : p.legal = true) (image : List Word) : Inv (State.initial p image) where
  legal := hlegal
  memWf := wf_nil
  memBound := nofun
  xZero := rfl
  pcBound n := by
    rw [seqAt_initial]
    exact Nat.zero_le _
  absent n _ := seqAt_initial p image n
  tape := Nat.le_refl 0
  asrKind := .inl rfl
  asrRaised := nofun
  asrSeq := by
    obtain ⟨-, ⟨hnseq, -⟩, -⟩ := (legal_iff p).mp hlegal
    exact hnseq
  asrPc := Nat.zero_le _
  booting _ := rfl

/-- Settles O15: `inv_initial`, and the default parameters are legal. -/
theorem resetMeetsTheInvariant : Obligations.ResetMeetsTheInvariant :=
  ⟨fun _ image hlegal => inv_initial hlegal image, inv_initial (by decide) []⟩

end Sys2Proof.Proofs
end

section
/-! PROOFS. What holds of every step or of every instruction: a step runs the decoded instruction, halts apply nothing else, events list the
writes applied, and what a cycle leaves unchanged (10_state.md R47, R60, R69, R70, R82; 40_cycle.md R235, R238; 60_exceptions.md R620). -/

namespace Sys2Proof.Proofs
open Sys2Proof.Machine Sys2Proof.Laws

/-! ### The step and `exec` (R235) -/

/-- Settles O6: SELECT and FETCH find the word, and DECODE hands `i` to `exec` with the cycle counted. -/
theorem stepRunsTheDecodedInstruction : Obligations.StepRunsTheDecodedInstruction := by
  intro s cur i hlive hp hdec
  rw [← fetchedWord_of_lt hp] at hdec
  rw [step_running hlive.legal hlive.running, beginCycle_run hlive.live hp hdec]
  rfl

/-! ### Halts (R620) -/

/-- A boot loads the image or halts. -/
theorem bootStep_cases (s : State) :
    (∃ b, bootCheck s.params s.image = .ok b ∧ bootStep s = booted s b) ∨
    ∃ r, bootCheck s.params s.image = .error r ∧ bootStep s = halt s r := by
  unfold bootStep
  cases bootCheck s.params s.image with
  | ok b => exact .inl ⟨b, rfl, rfl⟩
  | error r => exact .inr ⟨r, rfl, rfl⟩

/-- The record that a cycle ending halted leaves is the one it halts with. -/
theorem eq_halt_of_mode {s : State} {r r' : HaltRecord} (h : (halt s r).mode = .halted r') : halt s r = halt s r' := by
  cases h
  rfl

/-- A cycle that does not halt keeps the mode, so one that ends halted applied nothing else. -/
theorem finish_of_halted {s : State} {cur : SeqId} {act : Action} {r : HaltRecord} (hrun : s.mode = .running)
    (h : (finish s cur act).mode = .halted r) : finish s cur act = halt s r := by
  rcases finish_halts_or_writes s cur act with ⟨r', heq⟩ | heq <;> rw [heq] at h ⊢
  · exact eq_halt_of_mode h
  · rw [applyWrites_mode, hrun] at h
    cases h

/-- A step that ends halted is the halt of the state it began in, with the cycle counted where one ran. -/
theorem step_of_halted {s t : State} {r : HaltRecord} (hstep : step s = .next t) (h : t.mode = .halted r) :
    t = halt s r ∨ t = halt (tick s) r := by
  obtain ⟨-, ⟨-, rfl⟩ | ⟨-, -, rfl⟩ | ⟨hrun, cur, -, rfl⟩⟩ := step_cycle_cases hstep
  · rcases bootStep_cases s with ⟨b, -, heq⟩ | ⟨r', -, heq⟩ <;> rw [heq] at h ⊢
    · cases h
    · exact .inl (eq_halt_of_mode h)
  · exact .inl (eq_halt_of_mode h)
  · exact .inr (finish_of_halted hrun h)

/-- Settles O22: `step_of_halted`, `runFor_of_halted`, and a failed check is the halt of `bootStep`. -/
theorem haltsApplyNothingElse : Obligations.HaltsApplyNothingElse := by
  refine ⟨fun s t r hstep h => ⟨?_, runFor_of_halted h⟩, fun s t r hboot hstep hcheck => ?_⟩
  · rcases step_of_halted hstep h with rfl | rfl <;> rfl
  · obtain ⟨-, rfl⟩ := step_eq_bootStep hstep hboot
    rw [bootStep, hcheck]
    rfl

/-! ### Diagnostic events (R82, R238) -/

/-- The writes that the event lists are the ones that the end of the cycle applies: an illegal word, whose alarm nothing catches, has none. -/
theorem cycleWrites_eq (s : State) (cur : SeqId) : cycleWrites s cur = endWrites s cur (cycleAction s cur) := by
  unfold cycleWrites
  by_cases hp : (seqAt s cur).pc.toNat < s.params.memSize
  · rw [if_pos hp]
    cases hd : decode (fetchedWord s cur) with
    | error x => rw [cycleAction_illegal hp hd]; rfl
    | ok i =>
      rw [cycleAction_run hp hd]
      dsimp only
      rcases effectsOf i s cur with (⟨k, info⟩ | _) | e <;> rfl
  · rw [if_neg hp, cycleAction_fetchFault (Nat.not_lt.mp hp)]
    rfl

/-- The counter has no part in the writes. -/
theorem endWrites_tick (s : State) (cur : SeqId) (act : Action) : endWrites (tick s) cur act = endWrites s cur act := by
  rcases act with (⟨k, info⟩ | _) | e
  · cases k <;> rfl
  · rfl
  · rfl

theorem decoded?_ok {w : Word} {i : Instr} (h : decode w = .ok i) : decoded? w = some i := by
  rw [decoded?, h]

theorem decoded?_error {w : Word} {e : Illegal} (h : decode w = .error e) : decoded? w = none := by
  rw [decoded?, h]

/-- A halting step emits its record. -/
theorem diagnosticEvent_halted {s t : State} {r : HaltRecord} (hstep : step s = .next t) (h : t.mode = .halted r) :
    diagnosticEvent s = some (.halt r) := by
  simp only [diagnosticEvent, hstep, h]

/-- A cycle that ends Running emits the event of the live sequence. -/
theorem diagnosticEvent_cycle {s t : State} {cur : SeqId} (hstep : step s = .next t) (hrun : s.mode = .running) (ht : t.mode = .running)
    (hlive : select s = some cur) : diagnosticEvent s = some (.cycle (cycleEvent s cur)) := by
  simp only [diagnosticEvent, hstep, ht, hrun, hlive, Option.map_some]

/-- A step from Running to Running is a cycle of a live sequence, which applies the writes that its event lists. -/
theorem step_running_applies {s t : State} (hstep : step s = .next t) (hrun : s.mode = .running) (ht : t.mode = .running) :
    ∃ cur, select s = some cur ∧ t = applyWrites (tick s) (cycleWrites s cur) := by
  obtain ⟨-, ⟨hboot, -⟩ | ⟨-, -, rfl⟩ | ⟨-, cur, hlive, rfl⟩⟩ := step_cycle_cases hstep
  · rw [hrun] at hboot
    cases hboot
  · cases ht
  · refine ⟨cur, hlive, ?_⟩
    rcases finish_halts_or_writes (tick s) cur (cycleAction s cur) with ⟨r, heq⟩ | heq
    · rw [heq] at ht
      cases ht
    · rw [heq, endWrites_tick, cycleWrites_eq]

/-- Settles O13: the event of a cycle is `cycleEvent`, whose changes are those of `cycleWrites`. -/
theorem eventsListTheWritesApplied : Obligations.EventsListTheWritesApplied := by
  refine fun s t hstep => ⟨fun r h => diagnosticEvent_halted hstep h, fun hrun ht => ?_⟩
  obtain ⟨cur, hlive, happlied⟩ := step_running_applies hstep hrun ht
  exact ⟨cur, cycleWrites s cur, cycleEvent s cur, hlive, diagnosticEvent_cycle hstep hrun ht hlive, rfl, rfl, rfl, rfl,
    fun i hi => decoded?_ok hi, fun x hx => decoded?_error hx, rfl, happlied⟩

/-! ### The flags of the other sequences (R60) -/

/-- A write that is none to a flag of sequence `n`. -/
def KeepsFlagsOf (n : SeqId) (w : Write) : Prop := ∀ v, w ≠ .seqOv n v ∧ w ≠ .seqCy n v

/-- The flags ov and cy of a sequence. -/
def flagsOf (n : SeqId) (s : State) : Bool × Bool := ((seqAt s n).ov, (seqAt s n).cy)

/-- A change of a record that keeps its flags. -/
theorem flagsOf_setSeq {s : State} {n m : SeqId} {r : SeqRec} (h : m = n → r.ov = (seqAt s n).ov ∧ r.cy = (seqAt s n).cy) :
    flagsOf n (setSeq s m r) = flagsOf n s := by
  by_cases hm : m = n
  · obtain ⟨hov, hcy⟩ := h hm
    rw [flagsOf, flagsOf, hm, seqAt_setSeq_self, hov, hcy]
  · rw [flagsOf, flagsOf, seqAt_setSeq_ne (Ne.symm hm)]

theorem flagsOf_applyWrite (n : SeqId) (s : State) (w : Write) (hw : KeepsFlagsOf n w) : flagsOf n (applyWrite s w) = flagsOf n s := by
  cases w with
  | a | b | asr | asrValid | mem | tapeCursor | punch => rfl
  | x j v => rw [applyWrite, flagsOf, seqAt_writeX, flagsOf]
  | seqPc m v | seqEn m v | seqPrio m v => exact flagsOf_setSeq fun h => h ▸ ⟨rfl, rfl⟩
  | seqOv m v => exact flagsOf_setSeq fun h => absurd (h ▸ rfl) (hw v).1
  | seqCy m v => exact flagsOf_setSeq fun h => absurd (h ▸ rfl) (hw v).2

/-- No instruction writes a flag of a sequence that is not live. -/
theorem keepsFlagsOf_of_allowed {i : Instr} {s : State} {cur n : SeqId} {w : Write} (hne : n ≠ cur) (hw : Allowed i s cur w) :
    KeepsFlagsOf n w := by
  intro v
  constructor <;> rintro rfl <;> exact hne hw

/-- Settles O18: the writes of a cycle keep the flags of every other sequence, those of an alarm switch the flags of all. -/
theorem flagsOfOtherSequencesAreKept : Obligations.FlagsOfOtherSequencesAreKept := by
  intro s t cur n hrun hlive hstep hne
  have hkeep : ∀ w ∈ endWrites (tick s) cur (cycleAction s cur), KeepsFlagsOf n w := by
    refine forall_endWrites (fun e he w hw => ?_) (fun _ _ => ⟨nofun, nofun⟩) (fun _ _ => ⟨nofun, nofun⟩) fun _ _ _ => ⟨nofun, nofun⟩
    obtain ⟨-, i, -, heff⟩ := cycleAction_ok he
    obtain ⟨hallowed, -⟩ := effects_admit heff
    exact keepsFlagsOf_of_allowed hne (hallowed w hw)
  rw [step_live hstep hrun hlive]
  exact Prod.mk.inj (finish_frame (flagsOf n) (flagsOf_applyWrite n) (fun _ _ => rfl) hkeep)

/-! ### Memory, the tape and the punch (R47, R69, R70) -/

/-- What every halt keeps, and every write of the instruction's effect set, of the live pc and of an alarm switch, the instruction keeps. -/
theorem exec_induct {I : State → Prop} {P : Write → Prop} {i : Instr} {s t : State} (h : exec i s = .next t)
    (hwrite : ∀ s w, P w → I s → I (applyWrite s w)) (hhalt : ∀ s r, I s → I (halt s r)) (heff : ∀ cur w, Allowed i s cur w → P w)
    (hpc : ∀ n v, P (.seqPc n v)) (hasr : ∀ v, P (.asr v)) (hen : ∀ n v, P (.seqEn n v)) (hs : I s) : I t := by
  rcases exec_cases h with ⟨-, rfl⟩ | ⟨cur, -, rfl⟩
  · exact hhalt s _ hs
  · refine finish_induct hwrite hhalt (forall_endWrites (fun e he w hw => heff cur w ?_) (hpc cur) hasr hen) hs
    obtain ⟨hallowed, -⟩ := effects_admit he
    exact hallowed w hw

/-- The same for a component of the state that all of these leave unchanged. -/
theorem exec_frame {α : Type} (f : State → α) {P : Write → Prop} {i : Instr} {s t : State} (h : exec i s = .next t)
    (hwrite : ∀ s w, P w → f (applyWrite s w) = f s) (hhalt : ∀ s r, f (halt s r) = f s) (heff : ∀ cur w, Allowed i s cur w → P w)
    (hpc : ∀ n v, P (.seqPc n v)) (hasr : ∀ v, P (.asr v)) (hen : ∀ n v, P (.seqEn n v)) : f t = f s :=
  exec_induct (I := fun t => f t = f s) h (fun t w hw ht => (hwrite t w hw).trans ht) (fun t r ht => (hhalt t r).trans ht) heff hpc hasr hen rfl

theorem applyWrite_mem {s : State} {w : Write} (hw : ∀ addr v, w ≠ .mem addr v) : (applyWrite s w).mem = s.mem := by
  cases w with
  | x j v => exact writeX_mem s j v
  | mem addr v => exact absurd rfl (hw addr v)
  | a | b | seqPc | seqEn | seqPrio | seqOv | seqCy | asr | asrValid | tapeCursor | punch => rfl

/-- An instruction that is no store leaves memory as it was. -/
theorem exec_mem {i : Instr} {s t : State} (h : exec i s = .next t) (hi : ¬ IsStore i) : t.mem = s.mem := by
  refine exec_frame State.mem (P := fun w => ∀ addr v, w ≠ .mem addr v) h (fun _ _ => applyWrite_mem) halt_mem ?_ nofun nofun nofun
  rintro cur _ hw addr v rfl
  exact hi hw.2

/-- Settles O19: the four stores alone have a write to memory. -/
theorem onlyStoresChangeMemory : Obligations.OnlyStoresChangeMemory := by
  intro i s t h hsta hstb hstz hstx addr
  have hi : ¬ IsStore i := by
    rintro (⟨j, d, y, rfl⟩ | ⟨j, d, y, rfl⟩ | ⟨j, d, y, rfl⟩ | ⟨j, d, y, rfl⟩)
    · exact hsta j d y rfl
    · exact hstb j d y rfl
    · exact hstz j d y rfl
    · exact hstx j d y rfl
  rw [exec_mem h hi]

theorem applyWrite_punch {s : State} {w : Write} (hw : ∀ v, w ≠ .punch v) : (applyWrite s w).punch = s.punch := by
  cases w with
  | x j v => exact writeX_punch s j v
  | punch v => exact absurd rfl (hw v)
  | a | b | seqPc | seqEn | seqPrio | seqOv | seqCy | asr | asrValid | mem | tapeCursor => rfl

/-- An instruction other than PCH leaves the punch stream as it was. -/
theorem exec_punch {i : Instr} {s t : State} (h : exec i s = .next t) (hi : i ≠ .pch) : t.punch = s.punch := by
  refine exec_frame State.punch (P := fun w => ∀ v, w ≠ .punch v) h (fun _ _ => applyWrite_punch) halt_punch ?_ nofun nofun nofun
  rintro cur _ hw v rfl
  exact hi hw.2

/-- PCH appends A, whichever sequence is live (49_io.md R561). -/
theorem exec_pch {s : State} {cur : SeqId} (hs : select s = some cur) :
    exec .pch s = .next { advance s cur with punch := s.punch ++ [s.a] } :=
  exec_advance (ws := [.punch s.a]) hs rfl

/-- The punch stream after any instruction. -/
theorem exec_punch_cases {i : Instr} {s t : State} (h : exec i s = .next t) :
    t.punch = s.punch ∨ (t.punch = s.punch ++ [s.a] ∧ i = .pch) := by
  by_cases hi : i = .pch
  · subst hi
    rcases exec_cases h with ⟨-, rfl⟩ | ⟨cur, hs, -⟩
    · exact .inl (halt_punch s _)
    · rw [exec_pch hs] at h
      cases h
      exact .inr ⟨rfl, rfl⟩
  · exact .inl (exec_punch h hi)

/-- Only a write of the tape cursor moves it, and it moves it where it says. -/
theorem applyWrite_tc {s : State} {w : Write} : (applyWrite s w).tc = s.tc ∨ ∃ v, w = .tapeCursor v ∧ (applyWrite s w).tc = v := by
  cases w with
  | x j v => exact .inl (writeX_tc s j v)
  | tapeCursor v => exact .inr ⟨v, rfl, rfl⟩
  | a | b | seqPc | seqEn | seqPrio | seqOv | seqCy | asr | asrValid | mem | punch => exact .inl rfl

/-- The tape cursor after any instruction. -/
theorem exec_tc_cases {i : Instr} {s t : State} (h : exec i s = .next t) :
    t.tc = s.tc ∨ (t.tc = s.tc + 1 ∧ s.tc < s.tapeIn.length ∧ ∃ j d y, i = .rdt j d y) := by
  refine exec_induct (P := fun w => ∀ v, w = .tapeCursor v → v = s.tc + 1 ∧ s.tc < s.tapeIn.length ∧ ∃ j d y, i = .rdt j d y)
    (I := fun t => t.tc = s.tc ∨ (t.tc = s.tc + 1 ∧ s.tc < s.tapeIn.length ∧ ∃ j d y, i = .rdt j d y)) h ?_ (fun _ _ ht => ht) ?_
    nofun nofun nofun (.inl rfl)
  · intro t w hw ht
    rcases applyWrite_tc (s := t) (w := w) with heq | ⟨v, rfl, heq⟩ <;> rw [heq]
    · exact ht
    · exact .inr (hw v rfl)
  · rintro cur _ hw v rfl
    exact hw

/-- Settles O21: no write names the image, T_in or a parameter, and those that name the cursor or the punch stream belong to RDT and PCH. -/
theorem tapeAndPunchChangeOnlyByTheirInstructions : Obligations.TapeAndPunchChangeOnlyByTheirInstructions := by
  intro i s t h
  have hframe : (t.image, t.tapeIn, t.params) = (s.image, s.tapeIn, s.params) :=
    exec_frame (fun s => (s.image, s.tapeIn, s.params)) (P := fun _ => True) h
      (fun s w _ => by rw [applyWrite_image, applyWrite_tapeIn, applyWrite_params]) (fun _ _ => rfl) (fun _ _ _ => trivial)
      (fun _ _ => trivial) (fun _ => trivial) fun _ _ => trivial
  simp only [Prod.mk.injEq] at hframe
  obtain ⟨himage, htape, hparams⟩ := hframe
  exact ⟨himage, htape, hparams, exec_tc_cases h, exec_punch_cases h⟩

end Sys2Proof.Proofs
end

section
/-! PROOFS. Alarms and the explicit halt (60_exceptions.md R600 to R621). -/

namespace Sys2Proof.Proofs
open Sys2Proof.Machine Sys2Proof.Laws Sys2Proof.Claims

/-- The tables of R68, R609 and R610, row by row. -/
theorem alarmCodes : AlarmCodes :=
  ⟨⟨rfl, rfl, rfl, rfl, rfl, rfl⟩, ⟨rfl, rfl, rfl⟩, rfl, rfl, rfl⟩

theorem code_ne_zero (r : HaltReason) : r.code ≠ 0 := by
  cases r <;> decide

/-- What makes an alarm fatal: it has no handler, its handler is the live sequence, or an alarm is recorded already (R610). -/
theorem catcher_eq_none_iff {s : State} {k : AlarmKind} {cur : SeqId} :
    catcher s k cur = none ↔ ∀ h, alarmHandler s k = some h → h = cur ∨ s.asr.valid = true := by
  simp only [Option.eq_none_iff_forall_ne_some, ne_eq, catcher_some_iff, not_and, Bool.not_eq_false]
  exact forall_congr' fun h => imp_congr_right fun _ => or_iff_not_imp_left.symm

/-- Settles O27: an alarm with a catcher applies `alarmWrites`, which is the switch, and one without is a halt. -/
theorem alarmSwitchesOrHalts : Obligations.AlarmSwitchesOrHalts := by
  refine ⟨alarmCodes, code_ne_zero, fun s k cur p w info => ⟨⟨rfl, rfl, rfl⟩, fun h hk hne hvalid => ?_, fun hfatal => ?_⟩⟩
  · rw [alarm_caught (catcher_some_iff.mpr ⟨hk, hne, hvalid⟩)]
    exact ⟨switchedTo_alarmWrites hne k p w info, code_of_alarmHandler hk⟩
  · exact alarm_fatal (catcher_eq_none_iff.mpr hfatal) p w info

/-- Settles O28: in both cases no sequence catches the alarm, so it is a halt, which keeps the ASR. -/
theorem secondAlarmAndOwnAlarmAreFatal : Obligations.SecondAlarmAndOwnAlarmAreFatal := by
  refine ⟨alarmCodes, fun s k cur p w info hcase => ?_⟩
  have hnone : catcher s k cur = none := by
    refine catcher_eq_none_iff.mpr fun h hk => ?_
    rcases hcase with hvalid | hown
    · exact .inr hvalid
    · exact .inl (Option.some.inj (hk.symm.trans hown))
  rw [alarm_fatal hnone]
  exact ⟨rfl, rfl⟩

/-- Settles O50: HLT's effect set is the abort `halt`. -/
theorem explicitHaltRule : Obligations.ExplicitHaltRule :=
  ⟨rfl, operateLaw_of_finish rfl rfl finish_halt⟩

end Sys2Proof.Proofs
end

section
/-! PROOFS. JSX (43_control.md R347), the sequence-control instructions and the alarm status registers (10_state.md R64; 48_sequence.md R519
to R528; 40_cycle.md R233). -/

namespace Sys2Proof.Proofs
open Sys2Proof.Machine Sys2Proof.Laws Sys2Proof.Claims

/-! ### JSX (R347) -/

/-- The link of JSX: p + 1 in 18 bits. -/
theorem wrap18_pc_succ (p : Pc) : wrap18 ((p.toNat : Int) + 1) = p + 1 := wrap18_toNat_add p 1

/-- Settles O40: a transfer always taken, which writes the link to X[J]. -/
theorem subroutineJumpRule : Obligations.SubroutineJumpRule := by
  refine transferLaw_of_transferIf byAddress_resolves (fun _ _ _ => rfl) (fun _ _ _ => true)
    (fun s cur j => [.x j (wrap18 (((seqAt s cur).pc.toNat : Int) + 1))]) (fun _ _ _ _ _ => rfl) (fun _ _ _ => iff_of_true rfl trivial)
    fun s cur j t => ?_
  rw [commit_jump_x, wrap18_pc_succ]

/-! ### SEN, SDS and SPR (R520 to R522) -/

/-- The state after a cycle that gives sequence `n` the record `r` and advances the live pc: for `n` live, the pc of `r` gives way (R233). -/
def writeRecord (s : State) (cur n : SeqId) (r : SeqRec) : State :=
  if n = cur then setSeq s cur { r with pc := (seqAt s cur).pc + 1 } else setSeq (advance s cur) n r

/-- An instruction whose one buffered write replaces the record of sequence `n`. -/
theorem exec_writeRecord {i : Instr} {s : State} {cur n : SeqId} {w : Write} {r : SeqRec} (hs : select s = some cur)
    (heff : effectsOf i s cur = .ok (advanceWith [w])) (hw : applyWrite s w = setSeq s n r) :
    exec i s = .next (writeRecord s cur n r) := by
  rw [exec_advance hs heff, applyWrites_cons, applyWrites_nil, hw, writeRecord]
  split
  case isTrue heq => rw [heq, seqAt_setSeq_self, setSeq_setSeq_self]
  case isFalse hne => rw [seqAt_setSeq_ne (Ne.symm hne), setSeq_comm s _ _ hne, advance]

/-- An instruction that checks the id of an existing sequence goes on. -/
theorem checkSeq_bind_in {s : State} {n : SeqId} (h : n.toNat < s.params.nseq) (rest : Unit → Action) :
    (checkSeq s n >>= rest) = rest () := by
  rw [checkSeq_in h, ok_bind]

/-- Settles O51: each writes one field of the record of sequence n; SPR's immediate is `indexed`. -/
theorem sequenceControlRules : Obligations.SequenceControlRules := by
  refine fun n j y => ⟨rfl, rfl, rfl, fun s cur hs hn => ⟨?sen, ?sds, ?spr⟩⟩
  case sen => exact exec_writeRecord (w := .seqEn n true) hs (checkSeq_bind_in hn _) rfl
  case sds => exact exec_writeRecord (w := .seqEn n false) hs (checkSeq_bind_in hn _) rfl
  case spr => exact exec_writeRecord (w := .seqPrio n (BitVec.ofInt 8 (indexed s j y))) hs (checkSeq_bind_in hn _) rfl

/-! ### SPC (R523) -/

/-- What SPC does with EA: the target checked, whichever sequence is named, then the live pc or that of `n`. -/
def setPcTo (s : State) (cur n : SeqId) (ea : Int) : Action := do
  let t ← target s ea
  return if n = cur then jumpWith [] t else advanceWith [.seqPc n t]

/-- SPC of an existing sequence forms EA and then sets the pc. -/
theorem effectsOf_spc {s : State} {n : SeqId} (hn : n.toNat < s.params.nseq) (cur : SeqId) (j : IndexId) (d : Bool) (y : AddrField) :
    effectsOf (.spc n j d y) s cur = (eaIndexed s j d y >>= setPcTo s cur n) := checkSeq_bind_in hn _

theorem setPcTo_out {s : State} {ea : Int} (h : ¬ IsAddress s ea) (cur n : SeqId) : setPcTo s cur n ea = .error (addressFault ea) := by
  rw [setPcTo, target_out (inBounds_eq_false h), error_bind]

/-- Naming the live sequence is a taken transfer. -/
theorem setPcTo_live (s : State) (cur : SeqId) : setPcTo s cur cur = transferIf s true [] := by
  funext ea
  simp only [setPcTo, transferIf, if_true]

theorem setPcTo_other {s : State} {cur n : SeqId} {ea : Int} (h : IsAddress s ea) (hne : n ≠ cur) :
    setPcTo s cur n ea = .ok (advanceWith [.seqPc n (pcOf ea)]) := by
  rw [setPcTo, target_in (inBounds_iff.mpr h), ok_bind, if_neg hne, pure_eq_ok]

/-- SPC of the live sequence is JMP (R233). -/
theorem exec_spc_live {s : State} {cur : SeqId} (hs : select s = some cur) (hn : cur.toNat < s.params.nseq) (j : IndexId) (d : Bool)
    (y : AddrField) : exec (.spc cur j d y) s = exec (.jmp j d y) s := by
  rw [exec_of_live _ hs, exec_of_live _ hs, effectsOf_spc hn, setPcTo_live]
  rfl

/-- Settles O53: EA is formed and checked before SPC looks at which sequence it names. -/
theorem setProgramCounterRule : Obligations.SetProgramCounterRule := by
  refine fun n j d y => ⟨rfl, fun s cur hs hn => ⟨fun hd hea0 => ?_, fun ea hea hne => ?_, fun ea hea haddr hcur => ?_,
    fun ea hea haddr hcur => ?_, fun hcur => ?_⟩⟩
  · subst hd
    refine exec_addressFault hs ?_
    rw [effectsOf_spc hn, eaIndexed, resolve_deferred_out hea0]
    rfl
  · refine exec_addressFault hs ?_
    rw [effectsOf_spc hn, hea, ok_bind, setPcTo_out hne]
  · subst hcur
    rw [exec_of_live _ hs, effectsOf_spc hn, hea, ok_bind, setPcTo_live, transferIf_taken_in haddr, finish_ok, commit_jump_nil]
    rfl
  · have heff : effectsOf (.spc n j d y) s cur = .ok (advanceWith [.seqPc n (pcOf ea)]) := by
      rw [effectsOf_spc hn, hea, ok_bind, setPcTo_other haddr hcur]
    rw [exec_writeRecord hs heff rfl, writeRecord, if_neg hcur]
    rfl
  · subst hcur
    exact exec_spc_live hs hn j d y

/-! ### DIS, RSI and ACK (R526 to R528) -/

/-- A buffered write of the live sequence's enable, then the pc advanced: one update of its record. -/
theorem commit_advance_en (s : State) (cur : SeqId) (v : Bool) :
    commit s cur (advanceWith [.seqEn cur v]) = setSeq s cur { seqAt s cur with pc := (seqAt s cur).pc + 1, en := v } := by
  simp only [commit_advance, applyWrites_cons, applyWrites_nil, applyWrite, seqAt_setSeq_self, setSeq_setSeq_self]

/-- SDS of the live sequence is DIS (R233). -/
theorem exec_sds_live {s : State} {cur : SeqId} (hs : select s = some cur) (hn : cur.toNat < s.params.nseq) :
    exec (.sds cur) s = exec .dis s := by
  have heff : effectsOf (.sds cur) s cur = effectsOf .dis s cur := checkSeq_bind_in hn _
  rw [exec_of_live _ hs, exec_of_live _ hs, heff]

/-- Settles O52: one buffered write each, of the live record, of A and of ASR.valid. -/
theorem liveSequenceRules : Obligations.LiveSequenceRules := by
  refine ⟨?dis, ?rsi, ?ack, fun _ _ => exec_sds_live⟩
  case dis => exact operateLaw_of_finish rfl rfl fun s cur => commit_advance_en s cur false
  case rsi =>
    refine operateLaw_of_finish rfl rfl fun s cur => ?_
    rw [BitVec.ofNat_toNat]
    exact commit_advance s cur [.a (cur.setWidth 36)]
  case ack => exact operateLaw_of_finish rfl rfl fun s cur => commit_advance s cur [.asrValid false]

/-! ### RAS (R64, R525) -/

/-- The number of an alarm status word: its fields do not overlap and fit 36 bits. -/
theorem alarmStatus_toNat (r : Asr) : (alarmStatus r).toNat =
    r.valid.toNat * 2 ^ 35 + r.kind.toNat * 2 ^ 32 + r.seq.toNat * 2 ^ 18 + r.pc.toNat := by
  have hvalid := r.valid.toNat_lt
  have hkind := r.kind.isLt
  have hseq := r.seq.isLt
  have hpc := r.pc.isLt
  simp only [alarmStatus, BitVec.toNat_ofNat]
  omega

/-- R64's layout, field by field from the top. -/
theorem alarmStatus_fields (r : Asr) :
    (alarmStatus r).getLsbD 35 = r.valid ∧ (alarmStatus r).extractLsb' 32 3 = r.kind ∧ (alarmStatus r).extractLsb' 24 8 = 0 ∧
    (alarmStatus r).extractLsb' 18 6 = r.seq ∧ (alarmStatus r).extractLsb' 0 18 = r.pc := by
  have hvalid := r.valid.toNat_lt
  have hkind := r.kind.isLt
  have hseq := r.seq.isLt
  have hpc := r.pc.isLt
  refine ⟨bool_eq_of_toNat ?valid, BitVec.eq_of_toNat_eq ?kind, BitVec.eq_of_toNat_eq (y := 0#8) ?zeros, BitVec.eq_of_toNat_eq ?seq,
    BitVec.eq_of_toNat_eq ?pc⟩
  case valid => rw [getLsbD_toNat, alarmStatus_toNat]; omega
  case zeros => rw [extractLsb'_toNat_div, alarmStatus_toNat, BitVec.toNat_ofNat]; omega
  case kind | seq | pc => rw [extractLsb'_toNat_div, alarmStatus_toNat]; omega

/-- Settles O55: each selector of the table loads its word into A, the status word with R64's fields; any other abandons the cycle. -/
theorem readAlarmStatusRule : Obligations.ReadAlarmStatusRule := by
  refine ⟨fun _ => rfl, fun s cur hs => ⟨⟨alarmStatus s.asr, exec_loadA hs (effRas_status s cur), alarmStatus_fields s.asr⟩,
    exec_loadA hs (effRas_word s cur), exec_loadA hs (effRas_info s cur), fun k hk => ?_⟩⟩
  rw [exec_of_live _ hs]
  exact congrArg (fun act => Host.Outcome.next (finish s cur act)) (effRas_illegal hk s cur)

end Sys2Proof.Proofs
end

section
/-! PROOFS. The tape reader and the punch (49_io.md R560, R561). -/

namespace Sys2Proof.Proofs
open Sys2Proof.Machine Sys2Proof.Laws Sys2Proof.Claims

/-- What RDT does with EA: at end of tape a taken transfer, else the next word in A and the cursor moved. -/
def readTape (s : State) (ea : Int) : Action :=
  match s.tapeIn[s.tc]? with
  | some w => .ok (advanceWith [.a w, .tapeCursor (s.tc + 1)])
  | none => transferIf s true [] ea

/-- RDT forms EA whether or not a word is left. -/
theorem effectsOf_rdt (s : State) (cur : SeqId) (j : IndexId) (d : Bool) (y : AddrField) :
    effectsOf (.rdt j d y) s cur = (eaIndexed s j d y >>= readTape s) := rfl

theorem readTape_end {s : State} (h : s.tapeIn.length ≤ s.tc) (ea : Int) : readTape s ea = transferIf s true [] ea := by
  rw [readTape, List.getElem?_eq_none h]

theorem readTape_word {s : State} (h : s.tc < s.tapeIn.length) (ea : Int) :
    readTape s ea = .ok (advanceWith [.a (s.tapeIn.getD s.tc 0), .tapeCursor (s.tc + 1)]) := by
  rw [readTape, List.getElem?_eq_getElem h, List.getD_eq_getElem _ _ h]

/-- Settles O56: EA is formed first; at end of tape RDT is a taken transfer, and with a word left it does not look at EA. -/
theorem readTapeRule : Obligations.ReadTapeRule := by
  refine fun j d y => ⟨rfl, fun s cur hs => ⟨fun hd (hea0 : ¬ IsAddress s (indexed s j y)) => ?_,
    fun ea (hea : eaIndexed s j d y = .ok ea) hend hne => ?_, fun ea (hea : eaIndexed s j d y = .ok ea) hend haddr => ?_,
    fun ea (hea : eaIndexed s j d y = .ok ea) hword => ?_⟩⟩
  · subst hd
    refine exec_addressFault hs ?_
    rw [effectsOf_rdt, eaIndexed, resolve_deferred_out hea0]
    rfl
  · refine exec_addressFault hs ?_
    rw [effectsOf_rdt, hea, ok_bind, readTape_end hend, transferIf_taken_out hne]
  · refine ⟨_, exec_jump (ws := []) (t := pcOf ea) hs ?_, rfl⟩
    rw [effectsOf_rdt, hea, ok_bind, readTape_end hend, transferIf_taken_in haddr]
  · refine exec_advance (ws := [.a (s.tapeIn.getD s.tc 0), .tapeCursor (s.tc + 1)]) hs ?_
    rw [effectsOf_rdt, hea, ok_bind, readTape_word (Nat.lt_of_not_le hword)]

/-- Settles O57: PCH is one buffered write. -/
theorem punchRule : Obligations.PunchRule := operateLaw_of_finish rfl rfl fun s cur => commit_advance s cur [.punch s.a]

end Sys2Proof.Proofs
end

section
/-! PROOFS. Reset and boot from a tape image (70_reset_and_hazards.md R700 to R716). -/

namespace Sys2Proof.Proofs
open Sys2Proof.Machine Sys2Proof.Laws Sys2Proof.Claims

/-! ### Reset (R701) -/

/-- Settles O16: X and the sequence table by what their accessors read in the reset state, the other components by definition. -/
theorem resetValues : Obligations.ResetValues := fun p image =>
  ⟨read_nil, rfl, rfl, readX_initial p image, seqAt_initial p image, rfl, rfl, rfl, rfl, rfl, rfl⟩

/-! ### The checks (R711) -/

/-- Bits 35..17 of a word are 0 exactly if it is an address field. -/
theorem highBits_ne_zero_iff (w : Word) : highBits w ≠ 0 ↔ 2 ^ 17 ≤ w.toNat := by
  have hw := w.isLt
  have hzero : (0 : BitVec 19).toNat = 0 := rfl
  rw [ne_eq, ← BitVec.toNat_inj, highBits, extractLsb'_toNat_div, hzero]
  omega

/-- The checks of boot in R711's order, by the header, the count and the trailer of the image. -/
theorem bootCheck_eq (p : Params) (image : List Word) {header trailer : Word} {count : Nat} (hheader : image.getD 0 0 = header)
    (hcount : (image.getD 1 0).toNat = count) (htrailer : image.getD (2 + count) 0 = trailer) :
    bootCheck p image =
      if image.length < 3 then .error ⟨.bootImageInvalid, 0, 0, 0, 0⟩
      else if 2 ^ 17 ≤ header.toNat then .error ⟨.bootImageInvalid, 0, 0, 0, header⟩
      else if image.length < 3 + count then .error ⟨.bootImageInvalid, 0, 0, 0, image.getD 1 0⟩
      else if 2 ^ 17 ≤ trailer.toNat then .error ⟨.bootImageInvalid, 0, 0, 0, trailer⟩
      else if p.memSize < header.toNat + count then .error ⟨.addressFault, 0, 0, 0, BitVec.ofNat 36 (header.toNat + count)⟩
      else if p.memSize ≤ trailer.toNat then .error ⟨.addressFault, 0, 0, 0, trailer⟩
      else .ok { base := header.toNat, data := (image.drop 2).take count, entry := trailer.toNat, tail := image.drop (3 + count) } := by
  subst hheader hcount htrailer
  simp only [← highBits_ne_zero_iff, ← BitVec.ofInt_natCast]
  rfl

/-- A boot from reset whose check fails halts with its record and changes nothing else (R715). -/
theorem step_initial_of_error {p : Params} {image : List Word} {r : HaltRecord} (hlegal : p.legal = true)
    (hcheck : bootCheck p image = .error r) : step (State.initial p image) = .next { State.initial p image with mode := .halted r } := by
  rw [step_booting hlegal rfl, bootStep]
  simp only [State.initial, hcheck, halt]

/-- Settles O24: the checks before the one that fails do not apply, by `bootCheck_eq`. -/
theorem bootChecksInOrder : Obligations.BootChecksInOrder := by
  intro p image hlegal fails header count trailer
  have hcheck := bootCheck_eq p image (header := header) (count := count) (trailer := trailer) rfl rfl rfl
  refine ⟨fun hfails => ?_, fun hlong hfails => ?_, fun hlong hheader hfails => ?_, fun hheader hcount hfails => ?_,
    fun hheader hcount htrailer hfails => ?_, fun hheader hcount htrailer hblock hfails => ?_⟩
  all_goals refine step_initial_of_error hlegal (hcheck.trans ?_)
  · rw [if_pos hfails]
  · rw [if_neg (by omega), if_pos hfails]
  · rw [if_neg (by omega), if_neg (by omega), if_pos hfails]
  · rw [if_neg (by omega), if_neg (by omega), if_neg (by omega), if_pos hfails]
  · rw [if_neg (by omega), if_neg (by omega), if_neg (by omega), if_neg (by omega), if_pos hfails]
  · rw [if_neg (by omega), if_neg (by omega), if_neg (by omega), if_neg (by omega), if_neg (by omega), if_pos hfails]

/-! ### The booted state (R712 to R714) -/

/-- The load into empty memory: the block, and 0 elsewhere. -/
theorem read_booted (p : Params) (image : List Word) (b : BootPlan) (addr : Nat) :
    (booted (State.initial p image) b).mem.read addr =
      if b.base ≤ addr ∧ addr < b.base + b.data.length then b.data.getD (addr - b.base) 0 else 0 := read_load wf_nil b.base b.data addr

/-- A boot from reset whose checks pass leaves the state of R712 to R714, whose memory reads the block of the plan. -/
theorem bootedAt_of_plan {p : Params} {image : List Word} {b : BootPlan} {word : Nat → Word} (hlegal : p.legal = true)
    (hword : ∀ addr, (if b.base ≤ addr ∧ addr < b.base + b.data.length then b.data.getD (addr - b.base) 0 else 0) = word addr) :
    BootedAt p image b.entry b.tail word (booted (State.initial p image) b) := by
  refine ⟨?whole, wf_load wf_nil b.base b.data, fun addr => (read_booted p image b addr).trans (hword addr), seqAt_booted_bootSeq p image b,
    fun n hn => seqAt_booted_ne image b hn, (live_booted b hlegal).live, rfl, rfl, rfl, fun j => readX_initial p image j, rfl, rfl, rfl, rfl,
    rfl, rfl, rfl⟩
  have hreset : seqAt (State.initial p image) p.bootSeq = SeqRec.reset := seqAt_initial p image p.bootSeq
  calc booted (State.initial p image) b
    _ = { setSeq (State.initial p image) p.bootSeq { seqAt (State.initial p image) p.bootSeq with pc := BitVec.ofNat 18 b.entry, en := true } with
          mem := (booted (State.initial p image) b).mem, tapeIn := b.tail, tc := 0, mode := .running } := rfl
    _ = _ := by rw [hreset]; rfl

/-- The step from the reset state with an image that passes the checks. -/
theorem step_initial_of_ok {p : Params} {image : List Word} {b : BootPlan} (hlegal : p.legal = true) (hcheck : bootCheck p image = .ok b) :
    step (State.initial p image) = .next (booted (State.initial p image) b) := by
  rw [step_booting hlegal rfl, bootStep]
  simp only [State.initial, hcheck]

/-- An image that passes the checks of R711 has the plan of R710's layout. -/
theorem bootCheck_ok {p : Params} {image : List Word} {header trailer : Word} {count : Nat} (hheader : image.getD 0 0 = header)
    (hcount : (image.getD 1 0).toNat = count) (htrailer : image.getD (2 + count) 0 = trailer) (hmem : p.memSize ≤ 2 ^ 17)
    (hlen : 3 + count ≤ image.length) (hblock : header.toNat + count ≤ p.memSize) (hentry : trailer.toNat < p.memSize)
    (hbase : header.toNat < 2 ^ 17) : bootCheck p image = .ok
      { base := header.toNat, data := (image.drop 2).take count, entry := trailer.toNat, tail := image.drop (3 + count) } := by
  rw [bootCheck_eq p image hheader hcount htrailer, if_neg (by omega), if_neg (by omega), if_neg (by omega), if_neg (by omega),
    if_neg (by omega), if_neg (by omega)]

/-- Word i of the data block is word 2 + i of the image (R710). -/
theorem getD_block {image : List Word} {count i : Nat} (h : i < count) : ((image.drop 2).take count).getD i 0 = image.getD (2 + i) 0 := by
  simp only [List.getD_eq_getElem?_getD, List.getElem?_take_of_lt h, List.getElem?_drop]

/-- However a cycle ends, it keeps the image and T_in. -/
theorem finish_image_tapeIn (s : State) (cur : SeqId) (act : Action) :
    (finish s cur act).image = s.image ∧ (finish s cur act).tapeIn = s.tapeIn := by
  rcases finish_halts_or_writes s cur act with ⟨r, heq⟩ | heq <;> rw [heq]
  · exact ⟨rfl, rfl⟩
  · exact ⟨applyWrites_image s _, applyWrites_tapeIn s _⟩

/-- A cycle does not lead to Booting. -/
theorem finish_mode_ne_booting {s : State} (cur : SeqId) (act : Action) (hrun : s.mode = .running) :
    (finish s cur act).mode ≠ .booting := by
  rcases finish_halts_or_writes s cur act with ⟨r, heq⟩ | heq <;> rw [heq]
  · exact nofun
  · rw [applyWrites_mode, hrun]
    exact nofun

/-- No step leads to Booting or changes the image, and from Running none changes T_in. -/
theorem step_keeps_image {s t : State} (hstep : step s = .next t) :
    t.mode ≠ .booting ∧ t.image = s.image ∧ (s.mode = .running → t.tapeIn = s.tapeIn) := by
  obtain ⟨-, ⟨hboot, rfl⟩ | ⟨-, -, rfl⟩ | ⟨hrun, cur, -, rfl⟩⟩ := step_cycle_cases hstep
  · rw [hboot]
    rcases bootStep_cases s with ⟨b, -, heq⟩ | ⟨r, -, heq⟩ <;> rw [heq] <;> exact ⟨nofun, rfl, nofun⟩
  · exact ⟨nofun, rfl, fun _ => rfl⟩
  · obtain ⟨himage, htape⟩ := finish_image_tapeIn (tick s) cur (cycleAction s cur)
    exact ⟨finish_mode_ne_booting cur _ hrun, himage, fun _ => htape⟩

/-- Settles O25: `step_keeps_image`, and the booted state of the plan, whose data block is the image's words from 2 on. -/
theorem bootLoadsTheImage : Obligations.BootLoadsTheImage := by
  refine ⟨fun s t => step_keeps_image, fun p image hlegal => ?_⟩
  intro base count entry hlen hblock hentry hbase
  obtain ⟨⟨-, hmem⟩, -⟩ := (legal_iff p).mp hlegal
  refine ⟨_, step_initial_of_ok hlegal (bootCheck_ok rfl rfl rfl hmem hlen hblock hentry hbase), bootedAt_of_plan hlegal fun addr => ?_⟩
  have hdata : ((image.drop 2).take count).length = count := by
    rw [List.length_take, List.length_drop]
    omega
  dsimp only
  rw [hdata]
  split
  case isTrue h => exact getD_block (by omega)
  case isFalse => rfl

/-! ### Assembled images (R716) -/

/-- The image of an assembled program is the layout of R710 around its words. -/
theorem assemble_eq_some {base entry : AddrField} {src : List SourceWord} {tail ws image : List Word} (hws : assembleWords src = some ws)
    (h : assemble base entry src tail = some image) : image = tapeImage base ws entry tail := by
  rw [assemble, hws] at h
  exact (Option.some.inj h).symm

/-- The trailer follows the data. -/
theorem tapeImage_trailer (base entry : AddrField) (data tail : List Word) :
    (tapeImage base data entry tail).getD (2 + data.length) 0 = entry.setWidth 36 := by
  simp [tapeImage, Nat.add_comm 2]

/-- The count word is exact, since the data fits memory. -/
theorem tapeImage_count {base entry : AddrField} {data tail : List Word} (h : data.length ≤ 2 ^ 17) :
    ((tapeImage base data entry tail).getD 1 0).toNat = data.length := by
  change (BitVec.ofNat 36 data.length).toNat = data.length
  rw [BitVec.toNat_ofNat]
  omega

theorem setWidth36_toNat (y : AddrField) : (y.setWidth 36).toNat = y.toNat := BitVec.toNat_setWidth_of_le (by decide)

/-- Boot takes from an assembled image what the assembler put there. -/
theorem bootCheck_tapeImage {p : Params} {base entry : AddrField} {data tail : List Word} (hmem : p.memSize ≤ 2 ^ 17)
    (hblock : base.toNat + data.length ≤ p.memSize) (hentry : entry.toNat < p.memSize) :
    bootCheck p (tapeImage base data entry tail) = .ok { base := base.toNat, data := data, entry := entry.toNat, tail := tail } := by
  have hlen : 3 + data.length ≤ (tapeImage base data entry tail).length := by
    simp only [tapeImage, List.length_append, List.length_cons, List.length_nil]
    omega
  have hdata : ((tapeImage base data entry tail).drop 2).take data.length = data := by
    simp [tapeImage]
  have htail : (tapeImage base data entry tail).drop (3 + data.length) = tail := by
    simp [tapeImage, Nat.add_comm 3]
  have hcheck := bootCheck_ok (header := base.setWidth 36) rfl (tapeImage_count (by omega)) (tapeImage_trailer base entry data tail) hmem hlen
  simp only [setWidth36_toNat, hdata, htail] at hcheck
  exact hcheck hblock hentry base.isLt

/-- Settles O26: the plan that boot reads from the image is the one it was assembled from. -/
theorem assembledImageBoots : Obligations.AssembledImageBoots := by
  intro p base entry src tail ws image hlegal hws himage hblock hentry
  obtain rfl := assemble_eq_some hws himage
  obtain ⟨⟨-, hmem⟩, -⟩ := (legal_iff p).mp hlegal
  exact ⟨_, step_initial_of_ok hlegal (bootCheck_tapeImage hmem hblock hentry), bootedAt_of_plan hlegal fun _ => rfl⟩

end Sys2Proof.Proofs
end

section
/-! PROOFS. The opcode table (30_encoding.md R143 to R147): its rows are the legal words, each matched by one row. -/

namespace Sys2Proof.Proofs
open Sys2Proof.Machine Sys2Proof.Laws Sys2Proof.Claims

/-! ### What a word that encodes a row has -/

theorem encodes_iff (r : OpcodeRow) (w : Word) :
    r.encodes w = true ↔ w &&& r.mask = r.pattern ∧ ∀ k, r.maxC = some k → (fieldC w).toNat ≤ k := by
  unfold OpcodeRow.encodes
  cases r.maxC <;> simp

/-- Under a mask that covers bits `v`, a word that encodes the row agrees with its match there. -/
theorem and_eq_of_encodes {r : OpcodeRow} {w v : Word} (h : r.encodes w = true) (hv : r.mask &&& v = v) : w &&& v = r.pattern &&& v := by
  obtain ⟨hmatch, -⟩ := (encodes_iff r w).mp h
  rw [← hmatch, BitVec.and_assoc, hv]

theorem fieldOp_and (v w : Word) : fieldOp (v &&& w) = fieldOp v &&& fieldOp w := BitVec.extractLsb'_and
theorem fieldC_and (v w : Word) : fieldC (v &&& w) = fieldC v &&& fieldC w := BitVec.extractLsb'_and

/-- The bits of the field OP. -/
def opMask : Word := pack 0 63 0 false 0

/-- The bits of the field C. -/
def cMask : Word := pack 63 0 0 false 0

theorem and_full6 (v : BitVec 6) : v &&& 63 = v := BitVec.and_allOnes
theorem and_full17 (v : AddrField) : v &&& 131071 = v := BitVec.and_allOnes

theorem fieldOp_and_opMask (w : Word) : fieldOp (w &&& opMask) = fieldOp w := by
  rw [fieldOp_and, opMask, fieldOp_pack, and_full6]

theorem fieldC_and_cMask (w : Word) : fieldC (w &&& cMask) = fieldC w := by
  rw [fieldC_and, cMask, fieldC_pack, and_full6]

/-- The bits of the fields that a class marks must-be-zero (R143). -/
def mbzMask : OperandClass → Word
  | .m | .t | .xm => pack 63 0 0 false 0
  | .i | .xi => pack 63 0 0 true 0
  | .xr => pack 63 0 0 true 131071
  | .s | .r | .qr | .p => pack 0 0 63 true 131071
  | .qi => pack 0 0 0 true 0
  | .qt => pack 0 0 0 false 0

/-- Packed fields are the zero word if and only if each is zero. -/
theorem pack_eq_zero_iff {c : Config6} {op : Opcode} {j : IndexId} {d : Bool} {y : AddrField} :
    pack c op j d y = 0 ↔ c = 0 ∧ op = 0 ∧ j = 0 ∧ d = false ∧ y = 0 := by
  have hzero : (0 : Word) = pack 0 0 0 false 0 := rfl
  constructor
  · intro h
    exact pack_inj (h.trans hzero)
  · rintro ⟨rfl, rfl, rfl, rfl, rfl⟩
    exact hzero.symm

/-- The must-be-zero check of a class, on the bits of the word. -/
theorem mbzZero_iff (cls : OperandClass) (w : Word) :
    mbzZero cls (fieldC w) (fieldJ w) (fieldD w) (fieldY w) = true ↔ w &&& mbzMask cls = 0 := by
  conv_rhs => rw [← pack_fields w]
  cases cls
  all_goals
    simp only [mbzZero, mbzMask, pack_and, pack_eq_zero_iff, and_full6, and_full17, and_none6, and_none17, Bool.and_true, Bool.and_false,
      Bool.and_eq_true, beq_iff_eq, true_and, and_true, and_assoc]

/-! ### The rows are legal -/

/-- A row whose words are legal: OP is fixed, to an opcode that has a class; the fields that the class marks must-be-zero are fixed to zero; and
C is fixed to a sub-operation for OPR, bounded by 2 for RAS (R143 to R147). -/
def LegalRow (r : OpcodeRow) : Prop :=
  r.mask &&& opMask = opMask ∧
  (∃ cls ∈ opcodeClass (fieldOp r.pattern), r.mask &&& mbzMask cls = mbzMask cls ∧ r.pattern &&& mbzMask cls = 0) ∧
  (fieldOp r.pattern = 0o01 → r.mask &&& cMask = cMask ∧ (fieldC r.pattern).toNat < 0o17) ∧
  (fieldOp r.pattern = 0o65 → r.maxC = some 2)

/-- Every row of the table is legal, by evaluating the 64 rows. -/
theorem legalRow_of_mem : ∀ r ∈ opcodeTable, LegalRow r := by
  unfold LegalRow
  decide +kernel

/-- A word that encodes a legal row is in none of R148's cases. -/
theorem not_illegalCase_of_encodes {r : OpcodeRow} {w : Word} (hr : LegalRow r) (h : r.encodes w = true) : ¬ IllegalCase w := by
  obtain ⟨hop, ⟨cls, hcls, hmask, hzero⟩, hoperate, hselector⟩ := hr
  have heq : fieldOp w = fieldOp r.pattern := by
    rw [← fieldOp_and_opMask, and_eq_of_encodes h hop, fieldOp_and_opMask]
  have hclsw : opcodeClass (fieldOp w) = some cls := by rw [heq]; exact hcls
  rintro (hreserved | (⟨hop1, hc⟩ | ⟨hop65, hc⟩) | ⟨cls', hcls', hz⟩)
  · rw [(opcodeClass_eq_none_iff _).mpr hreserved] at hclsw
    cases hclsw
  · obtain ⟨hcmask, hlt⟩ := hoperate (heq ▸ hop1)
    rw [← fieldC_and_cMask, and_eq_of_encodes h hcmask, fieldC_and_cMask] at hc
    omega
  · obtain ⟨-, hbound⟩ := (encodes_iff r w).mp h
    have := hbound 2 (hselector (heq ▸ hop65))
    omega
  · rw [hclsw] at hcls'
    cases hcls'
    rw [(mbzZero_iff cls w).mpr ((and_eq_of_encodes h hmask).trans hzero)] at hz
    cases hz

/-- A word that encodes a row of the table decodes. -/
theorem decode_of_encodes {r : OpcodeRow} {w : Word} (hr : r ∈ opcodeTable) (h : r.encodes w = true) : ∃ i, decode w = .ok i := by
  obtain ⟨i, hi, -⟩ := decode_of_not_illegalCase (not_illegalCase_of_encodes (legalRow_of_mem r hr) h)
  exact ⟨i, hi⟩

/-! ### One row for each word -/

/-- Two rows disagree on a bit that both fix. -/
def Disagree (r r' : OpcodeRow) : Prop := r.pattern &&& r'.mask ≠ r'.pattern &&& r.mask

theorem disagree_symm : Std.Symm Disagree := ⟨fun _ _ => Ne.symm⟩

/-- Any two rows of the table disagree, by evaluating the pairs. -/
theorem rows_disagree : opcodeTable.Pairwise Disagree := by
  unfold Disagree
  decide +kernel

/-- No word encodes rows that disagree. -/
theorem not_disagree_of_encodes {w : Word} {r r' : OpcodeRow} (h : r.encodes w = true) (h' : r'.encodes w = true) : ¬ Disagree r r' := by
  obtain ⟨hmatch, -⟩ := (encodes_iff r w).mp h
  obtain ⟨hmatch', -⟩ := (encodes_iff r' w).mp h'
  rw [Disagree, ← hmatch, ← hmatch', BitVec.and_assoc, BitVec.and_assoc, BitVec.and_comm r.mask]
  exact not_not_intro rfl

/-- A word encodes at most one row of the table. -/
theorem row_unique {w : Word} {r r' : OpcodeRow} (hr : r ∈ opcodeTable) (hr' : r' ∈ opcodeTable) (h : r.encodes w = true)
    (h' : r'.encodes w = true) : r = r' := by
  have := disagree_symm
  by_contra hne
  exact not_disagree_of_encodes h h' (rows_disagree.forall hr hr' hne)

/-- No two rows have the same mnemonic. -/
theorem mnemonics_nodup : (opcodeTable.map OpcodeRow.mnemonic).Nodup := by
  decide +kernel

/-- The word of every instruction encodes the row of its mnemonic: `EncodesTableRow` of each constructor. -/
theorem encodesTableRow : (i : Instr) → EncodesTableRow.Statement i
  | .nop => EncodesTableRow.nop
  | .cla => EncodesTableRow.cla
  | .com => EncodesTableRow.com
  | .neg => EncodesTableRow.neg
  | .xab => EncodesTableRow.xab
  | .tab => EncodesTableRow.tab
  | .tba => EncodesTableRow.tba
  | .clc => EncodesTableRow.clc
  | .sec => EncodesTableRow.sec
  | .clo => EncodesTableRow.clo
  | .rsi => EncodesTableRow.rsi
  | .dis => EncodesTableRow.dis
  | .ack => EncodesTableRow.ack
  | .pch => EncodesTableRow.pch
  | .hlt => EncodesTableRow.hlt
  | .shl n => EncodesTableRow.shl n
  | .shr n => EncodesTableRow.shr n
  | .sar n => EncodesTableRow.sar n
  | .rol n => EncodesTableRow.rol n
  | .ror n => EncodesTableRow.ror n
  | .lda j d y => EncodesTableRow.lda j d y
  | .ldb j d y => EncodesTableRow.ldb j d y
  | .sta j d y => EncodesTableRow.sta j d y
  | .stb j d y => EncodesTableRow.stb j d y
  | .stz j d y => EncodesTableRow.stz j d y
  | .lia j y => EncodesTableRow.lia j y
  | .lib j y => EncodesTableRow.lib j y
  | .ldx j d y => EncodesTableRow.ldx j d y
  | .stx j d y => EncodesTableRow.stx j d y
  | .lix j y => EncodesTableRow.lix j y
  | .adx j y => EncodesTableRow.adx j y
  | .txa j => EncodesTableRow.txa j
  | .tax j => EncodesTableRow.tax j
  | .djp j d y => EncodesTableRow.djp j d y
  | .jmp j d y => EncodesTableRow.jmp j d y
  | .jaz j d y => EncodesTableRow.jaz j d y
  | .jnz j d y => EncodesTableRow.jnz j d y
  | .jan j d y => EncodesTableRow.jan j d y
  | .jap j d y => EncodesTableRow.jap j d y
  | .jov j d y => EncodesTableRow.jov j d y
  | .jcy j d y => EncodesTableRow.jcy j d y
  | .jsx j d y => EncodesTableRow.jsx j d y
  | .add j d y => EncodesTableRow.add j d y
  | .sub j d y => EncodesTableRow.sub j d y
  | .adc j d y => EncodesTableRow.adc j d y
  | .sbc j d y => EncodesTableRow.sbc j d y
  | .adv j d y => EncodesTableRow.adv j d y
  | .sbv j d y => EncodesTableRow.sbv j d y
  | .mul j d y => EncodesTableRow.mul j d y
  | .div j d y => EncodesTableRow.div j d y
  | .and j d y => EncodesTableRow.and j d y
  | .ior j d y => EncodesTableRow.ior j d y
  | .xor j d y => EncodesTableRow.xor j d y
  | .ske j d y => EncodesTableRow.ske j d y
  | .skn j d y => EncodesTableRow.skn j d y
  | .skl j d y => EncodesTableRow.skl j d y
  | .skg j d y => EncodesTableRow.skg j d y
  | .sen n => EncodesTableRow.sen n
  | .sds n => EncodesTableRow.sds n
  | .spr n j y => EncodesTableRow.spr n j y
  | .spc n j d y => EncodesTableRow.spc n j d y
  | .rss n => EncodesTableRow.rss n
  | .ras k => EncodesTableRow.ras k
  | .rdt j d y => EncodesTableRow.rdt j d y

/-- A word that decodes encodes the row of its instruction's mnemonic. -/
theorem encodes_of_decode {w : Word} {i : Instr} (h : decode w = .ok i) : ∃ r ∈ opcodeTable, r.mnemonic = mnemonic i ∧ r.encodes w = true := by
  obtain ⟨hformed, hword⟩ := encode_of_decode h
  exact hword ▸ encodesTableRow i hformed

/-- R147: a word encodes a row exactly when it decodes to the instruction of the row's mnemonic. -/
theorem encodes_iff_decode {w : Word} {r : OpcodeRow} (hr : r ∈ opcodeTable) :
    r.encodes w = true ↔ ∃ i, decode w = .ok i ∧ mnemonic i = r.mnemonic := by
  constructor
  · intro h
    obtain ⟨i, hi⟩ := decode_of_encodes hr h
    obtain ⟨r', hr', hname, h'⟩ := encodes_of_decode hi
    obtain rfl := row_unique hr hr' h h'
    exact ⟨i, hi, hname.symm⟩
  · rintro ⟨i, hi, hname⟩
    obtain ⟨r', hr', hname', h'⟩ := encodes_of_decode hi
    obtain rfl := List.inj_on_of_nodup_map mnemonics_nodup hr hr' (hname.symm.trans hname'.symm)
    exact h'

/-- Settles O2: every row is legal and no two rows share a word, and the word of every instruction encodes its row. -/
theorem tableRowsAreTheLegalWords : Obligations.TableRowsAreTheLegalWords := by
  refine ⟨rfl, by decide +kernel, fun w r hr => encodes_iff_decode hr, fun w r r' hr hr' => row_unique hr hr', fun w => ⟨fun hnone => ?_, ?_⟩⟩
  · cases hw : decode w with
    | error e => exact ⟨e, rfl⟩
    | ok i =>
      obtain ⟨r, hr, -, h⟩ := encodes_of_decode hw
      rw [hnone r hr] at h
      cases h
  · rintro ⟨e, he⟩ r hr
    refine Bool.eq_false_iff.mpr fun h => ?_
    obtain ⟨i, hi⟩ := decode_of_encodes hr h
    rw [he] at hi
    cases hi

/-- Settles O5: each word is the encoding of a well-formed instruction. -/
theorem sampleWordsDecode : Obligations.SampleWordsDecode :=
  ⟨decode_encode (i := .lda 3 true 100) rfl, decode_encode (i := .lia 5 10) rfl, decode_encode (i := .jcy 0 false 500) rfl,
    decode_encode (i := .djp 3 false 50) rfl, decode_encode (i := .adx 3 131071) rfl, decode_encode (i := .tax 3) rfl,
    decode_encode (i := .sar 35) rfl, decode_encode (i := .hlt) rfl, decode_encode (i := .rss 5) rfl,
    decode_encode (i := .spr 63 63 131071) rfl, decode_encode (i := .spc 63 63 true 131071) rfl, decode_encode (i := .ras 2) rfl⟩

end Sys2Proof.Proofs
end
